-- ==== Sys2Proof/Word.lean ====
section
/-! DEFINITION. The words of the block: the four decode spaces, a word of each, the display modes and the classes of
a key. A time value is a natural number of TIME_UNIT (R6, R9). -/

namespace Sys2Proof

/-- The four decode spaces (30_encoding.md, table before R42). -/
inductive Space where
  | ctrl
  | qkey
  | sedge
  | awin
  deriving DecidableEq, Repr

/-- The fixed width of a space's words, in bits (R53). -/
def Space.width : Space → Nat
  | .ctrl => 2
  | .qkey => 4
  | .sedge => 2
  | .awin => 2

/-- One word of one decode space: `{RST, TICK}` (R48), `{PREV, CUR}` (R43), `{LAST_LVL, SW}` (R46),
`{vol_win, pp_win}` (R47). -/
inductive Word where
  | ctrl (w : BitVec 2)
  | qkey (k : BitVec 4)
  | sedge (e : BitVec 2)
  | awin (w : BitVec 2)
  deriving DecidableEq, Repr

/-- The space a word belongs to. -/
def Word.space : Word → Space
  | .ctrl _ => .ctrl
  | .qkey _ => .qkey
  | .sedge _ => .sedge
  | .awin _ => .awin

/-- A word's bits read as an unsigned number. -/
def Word.bits : Word → Nat
  | .ctrl w => w.toNat
  | .qkey k => k.toNat
  | .sedge e => e.toNat
  | .awin w => w.toNat

/-- The display modes (R50, R90). -/
inductive Mode where
  | idle
  | volume
  | playPause
  deriving DecidableEq, Repr

/-- The three classes of a key by its change mask (R44). -/
inductive KeyClass where
  | noChange
  | single
  | double
  deriving DecidableEq, Repr

end Sys2Proof
end

