-- ==== Sys2Proof/Config.lean ====
section
/-! DEFINITION. What is fixed when the block is built (R6, R28), and the free values. -/

namespace Sys2Proof

/-- DIR_POLARITY: which line leads on a clockwise turn (R6, R57). -/
inductive Polarity where
  | clkLeadsCw
  | dtLeadsCw
  deriving DecidableEq, Repr

/-- The configuration of R6, one field a parameter. Windows, cadence and debounce are counts of TIME_UNIT.
VOL_RESET and PHASE_RESET are naturals, so that a value outside the legal range can be written and is refused (R126). -/
structure Config where
  /-- TIME_UNIT, the duration of one unit of NOW: any rational number of milliseconds (R6, assumption 20). -/
  timeUnitMs : Rat
  /-- TIME_W: `none` in the unbounded model, `some w` names the width of a finite realisation (R139, assumption 18). -/
  timeW : Option Nat
  debounce : Nat
  volWin : Nat
  ppWin : Nat
  idleCadence : Nat
  volStep : Nat
  hueStep : Nat
  polarity : Polarity
  qdecPrevReset : BitVec 2
  swLevelReset : Bool
  volReset : Nat
  playReset : Bool
  phaseReset : Nat
  volTsOnClamp : Bool
  cmdOnClamp : Bool
  deriving DecidableEq, Repr

/-- The duration, in milliseconds, that a count of TIME_UNIT stands for (R6). -/
def Config.duration (c : Config) (units : Nat) : Rat := units * c.timeUnitMs

/-- VOL_MIN, VOL_MAX and HUE_MOD are fixed (R6). -/
def Config.volMin : Int := 0
def Config.volMax : Int := 100
def Config.hueMod : Nat := 360

/-- The defaults of R6. DESIGN CHOICE: the OPEN parameters take HUE_STEP = 1, VOL_RESET = 50 and PLAY_RESET = 0
(assumptions 2, 3, 4). PRESUMED: DIR_POLARITY = CLK_LEADS_CW (assumption 17). -/
def Config.standard : Config where
  timeUnitMs := 1
  timeW := none
  debounce := 200
  volWin := 2000
  ppWin := 1000
  idleCadence := 50
  volStep := 2
  hueStep := 1
  polarity := .clkLeadsCw
  qdecPrevReset := 0b11#2
  swLevelReset := true
  volReset := 50
  playReset := false
  phaseReset := 0
  volTsOnClamp := true
  cmdOnClamp := true

/-- The free value of the n-th unspecified timestamp that RESET leaves (R129: `S.T_TOG <- any`). It has no body: no
proof can see which value it is (assumption 6). -/
opaque Config.freeTime : Nat → Nat

/-- CFG_POLARITY of R28: 0 = CLK_LEADS_CW, 1 = DT_LEADS_CW. -/
def Config.cfgPolarity (c : Config) : BitVec 1 :=
  match c.polarity with
  | .clkLeadsCw => 0#1
  | .dtLeadsCw => 1#1

/-- CFG_CLAMP of R28: bit 0 is VOL_TS_ON_CLAMP, bit 1 is CMD_ON_CLAMP. -/
def Config.cfgClamp (c : Config) : BitVec 2 :=
  BitVec.ofBool c.cmdOnClamp ++ BitVec.ofBool c.volTsOnClamp

end Sys2Proof
end

