-- ==== Sys2Proof/Syntax.lean ====
section
/-! DEFINITION. The instructions: one constructor a row of spec/opcode_table.json. -/

namespace Sys2Proof

/-- The entries of the four decode spaces. None has an operand field: each reads the inputs, the stored timestamps and
the configuration (R51). RESET alone leaves a bit of its word open: TICK is ignored (R48), and the constructor keeps it. -/
inductive Instr where
  /-- RESET, CTRL `1x`; the argument is the ignored TICK bit (R48, R129). -/
  | reset (tickBit : Bool)
  /-- TICK, CTRL `01` (R108). -/
  | tick
  /-- HOLD, CTRL `00` (R109). -/
  | hold
  /-- KEY0, QKEY `0000` (R63). -/
  | key0
  /-- KEY1, QKEY `0001` (R64). -/
  | key1
  /-- KEY2, QKEY `0010` (R65). -/
  | key2
  /-- KEY3, QKEY `0011` (R66). -/
  | key3
  /-- KEY4, QKEY `0100` (R67). -/
  | key4
  /-- KEY5, QKEY `0101` (R68). -/
  | key5
  /-- KEY6, QKEY `0110` (R69). -/
  | key6
  /-- KEY7, QKEY `0111` (R70). -/
  | key7
  /-- KEY8, QKEY `1000` (R71). -/
  | key8
  /-- KEY9, QKEY `1001` (R72). -/
  | key9
  /-- KEY10, QKEY `1010` (R73). -/
  | key10
  /-- KEY11, QKEY `1011` (R74). -/
  | key11
  /-- KEY12, QKEY `1100` (R75). -/
  | key12
  /-- KEY13, QKEY `1101` (R76). -/
  | key13
  /-- KEY14, QKEY `1110` (R77). -/
  | key14
  /-- KEY15, QKEY `1111` (R78). -/
  | key15
  /-- EDGE_HELD, SEDGE `00` (R81). -/
  | edgeHeld
  /-- EDGE_RISE, SEDGE `01` (R82). -/
  | edgeRise
  /-- EDGE_FALL, SEDGE `10` (R83). -/
  | edgeFall
  /-- EDGE_IDLE, SEDGE `11` (R84). -/
  | edgeIdle
  /-- WIN11, AWIN `11` (R91). -/
  | win11
  /-- WIN10, AWIN `10` (R92). -/
  | win10
  /-- WIN01, AWIN `01` (R93). -/
  | win01
  /-- WIN00, AWIN `00` (R94). -/
  | win00
  deriving DecidableEq, Repr

/-- The decode space an instruction belongs to. -/
def Instr.space : Instr → Space
  | .reset _ | .tick | .hold => .ctrl
  | .edgeHeld | .edgeRise | .edgeFall | .edgeIdle => .sedge
  | .win11 | .win10 | .win01 | .win00 => .awin
  | .key0 | .key1 | .key2 | .key3 | .key4 | .key5 | .key6 | .key7 | .key8 | .key9 | .key10 | .key11 | .key12 | .key13 | .key14 | .key15 => .qkey

end Sys2Proof
end

