-- ==== Sys2Proof/WellFormed.lean ====
section
/-! DEFINITION. The checks: the legal ranges of the configuration (R6, R126), and that a raw number fits its space's
width (R53). Every instruction is well formed: no word of any space is reserved or illegal (R52), and no instruction has
an operand that could be out of range. -/

namespace Sys2Proof

/-- Every instruction is well formed (R52). -/
def Instr.wf (_ : Instr) : Bool := true

/-- A number is a word of the space when it fits the space's width (R53). -/
def rawFits (sp : Space) (n : Nat) : Bool := decide (n < 2 ^ sp.width)

/-- TIME_W is unbounded, or at least 12 bits (R6). -/
def Config.timeWOk (c : Config) : Bool :=
  match c.timeW with
  | none => true
  | some w => decide (12 ≤ w)

/-- The legal ranges of R6. TIME_UNIT is positive when its numerator is; that it divides every window exactly needs no
check, since each window is held as a count of it (law `Config.duration_div_timeUnit`, assumption 20). DEBOUNCE has no bound; QDEC_PREV_RESET, SW_LEVEL_RESET, PLAY_RESET and the two clamp
parameters are legal at every value of their type. -/
def Config.legal (c : Config) : Bool :=
  decide (0 < c.timeUnitMs.num) && c.timeWOk &&
  decide (1 ≤ c.volWin) && decide (1 ≤ c.ppWin) && decide (1 ≤ c.idleCadence) &&
  decide (1 ≤ c.volStep) && decide (c.volStep ≤ 100) &&
  decide (1 ≤ c.hueStep) && decide (c.hueStep ≤ 359) &&
  decide (c.volReset ≤ 100) && decide (c.phaseReset ≤ 359)

end Sys2Proof
end

