-- ==== Sys2Proof/Decode.lean ====
section
/-! DEFINITION. Decoding of the four spaces, total and with no reserved word (R52, R53); the encoder; the opcode table
as data; decoding of raw bytes, which rejects by name. -/

namespace Sys2Proof

/-- CTRL `{RST, TICK}`: RST outranks TICK (R48). -/
def decodeCtrl (w : BitVec 2) : Instr :=
  if w.getLsbD 1 then .reset (w.getLsbD 0)
  else if w.getLsbD 0 then .tick
  else .hold

/-- QKEY `{PREV, CUR}` (R43, R45). -/
def decodeQkey (k : BitVec 4) : Instr :=
  match k.toNat with
  | 0 => .key0
  | 1 => .key1
  | 2 => .key2
  | 3 => .key3
  | 4 => .key4
  | 5 => .key5
  | 6 => .key6
  | 7 => .key7
  | 8 => .key8
  | 9 => .key9
  | 10 => .key10
  | 11 => .key11
  | 12 => .key12
  | 13 => .key13
  | 14 => .key14
  | _ => .key15

/-- SEDGE `{LAST_LVL, SW}` (R46). -/
def decodeSedge (e : BitVec 2) : Instr :=
  match e.getLsbD 1, e.getLsbD 0 with
  | false, false => .edgeHeld
  | false, true => .edgeRise
  | true, false => .edgeFall
  | true, true => .edgeIdle

/-- AWIN `{vol_win, pp_win}` (R47). -/
def decodeAwin (w : BitVec 2) : Instr :=
  match w.getLsbD 1, w.getLsbD 0 with
  | true, true => .win11
  | true, false => .win10
  | false, true => .win01
  | false, false => .win00

/-- Every word of every space is an instruction (R52). -/
def decode : Word → Instr
  | .ctrl w => decodeCtrl w
  | .qkey k => decodeQkey k
  | .sedge e => decodeSedge e
  | .awin w => decodeAwin w

/-- The word of an instruction (R45 to R48). -/
def encode : Instr → Word
  | .reset t => .ctrl (1#1 ++ BitVec.ofBool t)
  | .tick => .ctrl 0b01#2
  | .hold => .ctrl 0b00#2
  | .key0 => .qkey 0b0000#4
  | .key1 => .qkey 0b0001#4
  | .key2 => .qkey 0b0010#4
  | .key3 => .qkey 0b0011#4
  | .key4 => .qkey 0b0100#4
  | .key5 => .qkey 0b0101#4
  | .key6 => .qkey 0b0110#4
  | .key7 => .qkey 0b0111#4
  | .key8 => .qkey 0b1000#4
  | .key9 => .qkey 0b1001#4
  | .key10 => .qkey 0b1010#4
  | .key11 => .qkey 0b1011#4
  | .key12 => .qkey 0b1100#4
  | .key13 => .qkey 0b1101#4
  | .key14 => .qkey 0b1110#4
  | .key15 => .qkey 0b1111#4
  | .edgeHeld => .sedge 0b00#2
  | .edgeRise => .sedge 0b01#2
  | .edgeFall => .sedge 0b10#2
  | .edgeIdle => .sedge 0b11#2
  | .win11 => .awin 0b11#2
  | .win10 => .awin 0b10#2
  | .win01 => .awin 0b01#2
  | .win00 => .awin 0b00#2

/-- One row of spec/opcode_table.json: its space, mask and match, and the instructions it stands for (RESET's row stands
for both values of the ignored bit). -/
structure TableRow where
  space : Space
  mask : Nat
  value : Nat
  instrs : List Instr
  deriving DecidableEq, Repr

def ctrlRows : List TableRow := [
  ⟨.ctrl, 0b10, 0b10, [.reset false, .reset true]⟩,
  ⟨.ctrl, 0b11, 0b01, [.tick]⟩,
  ⟨.ctrl, 0b11, 0b00, [.hold]⟩]

def qkeyRowsLow : List TableRow := [
  ⟨.qkey, 0b1111, 0b0000, [.key0]⟩,
  ⟨.qkey, 0b1111, 0b0001, [.key1]⟩,
  ⟨.qkey, 0b1111, 0b0010, [.key2]⟩,
  ⟨.qkey, 0b1111, 0b0011, [.key3]⟩,
  ⟨.qkey, 0b1111, 0b0100, [.key4]⟩,
  ⟨.qkey, 0b1111, 0b0101, [.key5]⟩,
  ⟨.qkey, 0b1111, 0b0110, [.key6]⟩,
  ⟨.qkey, 0b1111, 0b0111, [.key7]⟩]

def qkeyRowsHigh : List TableRow := [
  ⟨.qkey, 0b1111, 0b1000, [.key8]⟩,
  ⟨.qkey, 0b1111, 0b1001, [.key9]⟩,
  ⟨.qkey, 0b1111, 0b1010, [.key10]⟩,
  ⟨.qkey, 0b1111, 0b1011, [.key11]⟩,
  ⟨.qkey, 0b1111, 0b1100, [.key12]⟩,
  ⟨.qkey, 0b1111, 0b1101, [.key13]⟩,
  ⟨.qkey, 0b1111, 0b1110, [.key14]⟩,
  ⟨.qkey, 0b1111, 0b1111, [.key15]⟩]

def sedgeRows : List TableRow := [
  ⟨.sedge, 0b11, 0b00, [.edgeHeld]⟩,
  ⟨.sedge, 0b11, 0b01, [.edgeRise]⟩,
  ⟨.sedge, 0b11, 0b10, [.edgeFall]⟩,
  ⟨.sedge, 0b11, 0b11, [.edgeIdle]⟩]

def awinRows : List TableRow := [
  ⟨.awin, 0b11, 0b11, [.win11]⟩,
  ⟨.awin, 0b11, 0b10, [.win10]⟩,
  ⟨.awin, 0b11, 0b01, [.win01]⟩,
  ⟨.awin, 0b11, 0b00, [.win00]⟩]

/-- The opcode table, 27 rows. -/
def opcodeRows : List TableRow := ctrlRows ++ qkeyRowsLow ++ qkeyRowsHigh ++ sedgeRows ++ awinRows

/-- A word matches a row of its own space when its masked bits are the row's. -/
def TableRow.matchesWord (r : TableRow) (w : Word) : Bool :=
  r.space == w.space && (w.bits &&& r.mask) == r.value

/-- Why raw bytes are no word. -/
inductive DecodeError where
  /-- There is no byte to read. Safe: nothing is given a meaning. -/
  | noByte
  /-- The byte has a bit above its space's width. Safe: nothing is given a meaning. -/
  | wordTooWide
  deriving DecidableEq, Repr

/-- The word of a space with a given number, `none` when the number does not fit the space's width (R53). -/
def rawWord (sp : Space) (n : Nat) : Option Word :=
  if rawFits sp n then
    some (match sp with
      | .ctrl => .ctrl (BitVec.ofNat 2 n)
      | .qkey => .qkey (BitVec.ofNat 4 n)
      | .sedge => .sedge (BitVec.ofNat 2 n)
      | .awin => .awin (BitVec.ofNat 2 n))
  else none

/-- Decoding of the first byte of a list as a word of one space: the instruction and the rest. -/
def decodeBytes (sp : Space) : List (BitVec 8) → Except DecodeError (Instr × List (BitVec 8))
  | [] => .error .noByte
  | b :: rest =>
    match rawWord sp b.toNat with
    | some w => .ok (decode w, rest)
    | none => .error .wordTooWide

/-- The space a table word is read in. The table numbers the words of the four spaces alike (HOLD, KEY0, EDGE_HELD and
WIN00 are all 0), so a number alone names no row: DESIGN CHOICE, a word of at most two bits is CTRL, a wider one QKEY
(assumption 11). -/
def tableSpace (w : Nat) : Space :=
  if w < 4 then .ctrl else .qkey

/-- The word a table number stands for. The first byte holds the whole word; the bits above it are zero. -/
def tableWord (nbits w : Nat) : Option Word :=
  if w < 2 ^ nbits then rawWord (tableSpace w) w else none

/-- The instruction the decoder reads from the table's numbering of its bits. -/
def decodeTableWord (nbits w : Nat) : Option Instr :=
  match tableWord nbits w with
  | some x => some (decode x)
  | none => none

end Sys2Proof
end

