-- ==== Sys2Proof/Machine/State.lean ====
section
/-! DEFINITION. The state of the block (10_state.md), as plain data: the configuration, the eleven state elements of
R24, the outputs of R15, the ghost LAST_NOW of R110, the input levels of R13, and three fields of the model's own (the
host's pending operations, SWDET's toggle net, the counter of free draws). -/

namespace Sys2Proof.Machine

/-- The levels on the data inputs at one operation (R13); SW is active-low. -/
structure Pins where
  clk : Bool
  dt : Bool
  sw : Bool
  now : Nat
  deriving DecidableEq, Repr

/-- One operation of the host: the word it selects and the input levels beside it (R13, R54). The hardware's
operations are the CTRL words; a word of another space runs that datapath entry alone (assumption 9). -/
structure Sample where
  word : Word
  pins : Pins
  deriving DecidableEq, Repr

/-- The outputs (R15). `vol` and `play` here are the ports; `State.vol` and `State.play` are the registers. -/
@[ext]
structure Outputs where
  dir : BitVec 2
  cmdVolInc : Bool
  cmdVolDec : Bool
  cmdPpToggle : Bool
  volRedraw : Bool
  ppRedraw : Bool
  idleRedraw : Bool
  phaseOut : BitVec 9
  mode : BitVec 2
  vol : BitVec 7
  play : Bool
  deriving DecidableEq, Repr

/-- The state of the machine. -/
@[ext]
structure State where
  /-- The configuration, hardwired and read-only (R28, assumption 1). -/
  cfg : Config
  /-- PREV (R16). -/
  prev : BitVec 2
  /-- LAST_LVL (R17). -/
  lastLvl : Bool
  /-- V_TOG and T_TOG (R18). -/
  vTog : Bool
  tTog : Nat
  /-- V_VOL and T_VOL (R19). -/
  vVol : Bool
  tVol : Nat
  /-- V_IDLE and T_IDLE (R20). -/
  vIdle : Bool
  tIdle : Nat
  /-- PHASE (R21). -/
  phase : BitVec 9
  /-- VOL (R22). -/
  vol : BitVec 7
  /-- PLAY: 1 is playing (R23). -/
  play : Bool
  /-- The output ports (R15). -/
  out : Outputs
  /-- LAST_NOW, the ghost of R110. -/
  lastNow : Nat
  /-- The input levels of the operation being run (R13). -/
  pins : Pins
  /-- The host's operations not yet run, oldest first (assumption 7). -/
  queue : List Sample
  /-- SWDET's local `toggle` on its way to the play part (R80, assumption 16). -/
  toggle : Bool
  /-- How many free timestamps have been drawn (assumption 6). -/
  draws : Nat
  deriving DecidableEq, Repr

/-- The block raises no exception, has no trap and no stuck state (R113): no step ends in a fault. -/
inductive Fault where
  deriving DecidableEq, Repr

/-- Why a step gives no next state. These are outcomes of the model, not of the hardware (60_exceptions.md section 6),
and a refused run is over for good (R127, assumption 14). -/
inductive Refusal where
  /-- Raised by the dispatcher for an instruction with no meaning yet. Safe: nothing follows from a refusal. -/
  | notModelled (mnemonic : String)
  /-- Raised by every instruction when the configuration is outside the legal ranges (R126). Safe. -/
  | illegalConfig
  /-- Raised by TICK, and by the two entries that read NOW, when NOW is below LAST_NOW (R110, R127). Safe. -/
  | timeBackwards
  /-- Raised by every instruction when the state holds DIR = 0b10 or MODE = 0b11 (R128). Safe. -/
  | reservedOutputCode
  deriving DecidableEq, Repr

/-- The outcome of one operation. -/
abbrev Outcome := Host.Outcome State Fault Refusal

/-- The outputs after RESET (R129). -/
def Outputs.reset (c : Config) : Outputs where
  dir := 0b00#2
  cmdVolInc := false
  cmdVolDec := false
  cmdPpToggle := false
  volRedraw := false
  ppRedraw := false
  idleRedraw := false
  phaseOut := BitVec.ofNat 9 c.phaseReset
  mode := 0b00#2
  vol := BitVec.ofNat 7 c.volReset
  play := c.playReset

/-- The idle-high rest: CLK = DT = SW = 1 (R13, R55). -/
def Pins.rest (t : Nat) : Pins := ⟨true, true, true, t⟩

/-- The machine right after RESET with the standard configuration (R129). DESIGN CHOICE: the timestamps behind a
cleared valid bit hold 0 (assumption 5), the inputs are at rest at time 0 (assumption 8), and no operation is pending
(assumption 7). -/
def State.reset : State where
  cfg := Config.standard
  prev := Config.standard.qdecPrevReset
  lastLvl := Config.standard.swLevelReset
  vTog := false
  tTog := 0
  vVol := false
  tVol := 0
  vIdle := false
  tIdle := 0
  phase := BitVec.ofNat 9 Config.standard.phaseReset
  vol := BitVec.ofNat 7 Config.standard.volReset
  play := Config.standard.playReset
  out := Outputs.reset Config.standard
  lastNow := 0
  pins := Pins.rest 0
  queue := []
  toggle := false
  draws := 0

end Sys2Proof.Machine
end

