-- ==== Sys2Proof/Machine/Operands.lean ====
section
/-! DEFINITION. The operand forms (R51): the fields of the words, the codes of the outputs, the decode ROM, the Gray
position, the clamp and elapsed time. -/

namespace Sys2Proof

/-- `{hi, lo}`, the more significant bit first (R8). -/
def bits2 (hi lo : Bool) : BitVec 2 := BitVec.ofBool hi ++ BitVec.ofBool lo

/-- K = (PREV << 2) | CUR (R43). -/
def key (prev cur : BitVec 2) : BitVec 4 := (prev.setWidth 4 <<< 2) ||| cur.setWidth 4

/-- P = K[3:2] and C = K[1:0] (R51). -/
def keyPrev (k : BitVec 4) : BitVec 2 := k.extractLsb' 2 2
def keyCur (k : BitVec 4) : BitVec 2 := k.extractLsb' 0 2

/-- X = P ^ C (R44). -/
def changeMask (k : BitVec 4) : BitVec 2 := keyPrev k ^^^ keyCur k

/-- The class of a key by its change mask (R44). -/
def keyClass (k : BitVec 4) : KeyClass :=
  if changeMask k = 0b00#2 then .noChange
  else if changeMask k = 0b11#2 then .double
  else .single

/-- dir = sext_2(DIR) (R49). -/
def dirValue (code : BitVec 2) : Int := code.toInt

/-- The DIR code of a direction (R49, R57). -/
def dirCode (d : Int) : BitVec 2 :=
  if d = 1 then 0b01#2 else if d = -1 then 0b11#2 else 0b00#2

/-- s of R57: +1 under CLK_LEADS_CW, -1 under DT_LEADS_CW. -/
def Polarity.sign : Polarity → Int
  | .clkLeadsCw => 1
  | .dtLeadsCw => -1

/-- The two dir columns of the key table, in key order (R45). -/
def dirColumn : Polarity → List Int
  | .clkLeadsCw => [0, -1, 1, 0, 1, 0, 0, -1, -1, 0, 0, 1, 0, 1, -1, 0]
  | .dtLeadsCw => [0, 1, -1, 0, -1, 0, 0, 1, 1, 0, 0, -1, 0, -1, 1, 0]

/-- The decode ROM's contents: the DIR code at each address, addresses 0 to 15 rising (R29, R34). -/
def romImage (p : Polarity) : List (Nat × BitVec 2) :=
  (dirColumn p).mapIdx fun a d => (a, dirCode d)

/-- The one ROM read of a tick (R33). -/
def romRead (p : Polarity) (k : BitVec 4) : BitVec 2 :=
  ((romImage p).lookup k.toNat).getD 0b00#2

/-- The closed form of R57. -/
def romClosedForm (p : Polarity) (k : BitVec 4) : BitVec 2 :=
  let x := changeMask k
  if x = 0b00#2 ∨ x = 0b11#2 then dirCode 0
  else dirCode (p.sign * if (k.getLsbD 2 ^^ k.getLsbD 1) then 1 else -1)

/-- The Gray position of a pin pair: g(11) = 0, g(01) = 1, g(00) = 2, g(10) = 3 (R58). -/
def gray (c : BitVec 2) : Int :=
  if c = 0b11#2 then 0 else if c = 0b01#2 then 1 else if c = 0b00#2 then 2 else 3

/-- The pin pair at a Gray position, positions counted modulo 4 (R58). -/
def pairAt (n : Int) : BitVec 2 :=
  if n % 4 = 0 then 0b11#2 else if n % 4 = 1 then 0b01#2 else if n % 4 = 2 then 0b00#2 else 0b10#2

/-- The MODE code (R50). -/
def Mode.code : Mode → BitVec 2
  | .idle => 0b00#2
  | .volume => 0b01#2
  | .playPause => 0b10#2

/-- The priority order of the modes, Volume highest (R90, R96). -/
def modeRank (code : BitVec 2) : Nat :=
  if code = Mode.volume.code then 2 else if code = Mode.playPause.code then 1 else 0

/-- clamp(v, lo, hi) (R9). -/
def clamp (v lo hi : Int) : Int :=
  if v < lo then lo else if hi < v then hi else v

/-- NOW - T on naturals (R9, R51). Exact wherever the timestamp is valid in a state a run reaches (R110). -/
abbrev elapsed (now t : Nat) : Nat := now - t

/-- What a realisation with w-bit times computes: the difference modulo 2^w (R139). The step does not use it. -/
def elapsedRealised (w now t : Nat) : Nat := (BitVec.ofNat w now - BitVec.ofNat w t).toNat

namespace Machine

/-- CUR = {CLK, DT} (R14, R42). -/
def Pins.cur (p : Pins) : BitVec 2 := bits2 p.clk p.dt

/-- The key of the state's next tick at the levels on its inputs (R43, R56). -/
def State.key (s : State) : BitVec 4 := Sys2Proof.key s.prev s.pins.cur

/-- E = {LAST_LVL, SW} (R46). -/
def State.edgeCode (s : State) : BitVec 2 := bits2 s.lastLvl s.pins.sw

end Machine

end Sys2Proof
end

