-- ==== Sys2Proof/Machine/Flags.lean ====
section
/-! DEFINITION. The conditions a tick computes: the four comparators (R121), the window vector, the priority
multiplexer, and the reserved output codes. -/

namespace Sys2Proof.Machine

/-- The debounce gate: no toggle accepted yet, or more than DEBOUNCE ago (R79). -/
def State.gate (s : State) : Bool :=
  !s.vTog || decide (s.cfg.debounce < elapsed s.pins.now s.tTog)

/-- The volume window (R89). -/
def State.volWindow (s : State) : Bool :=
  s.vVol && decide (elapsed s.pins.now s.tVol < s.cfg.volWin)

/-- The play/pause window (R89). -/
def State.ppWindow (s : State) : Bool :=
  s.vTog && decide (elapsed s.pins.now s.tTog < s.cfg.ppWin)

/-- W = {vol_win, pp_win} (R47, R89). -/
def State.windowVector (s : State) : BitVec 2 := bits2 s.volWindow s.ppWindow

/-- The priority multiplexer (R90). -/
def muxMode (volWin ppWin : Bool) : Mode :=
  if volWin then .volume else if ppWin then .playPause else .idle

/-- The idle cadence gate: no redraw yet, or the last one at least IDLE_CADENCE ago (R95). -/
def State.idleDue (s : State) : Bool :=
  !s.vIdle || decide (s.cfg.idleCadence ≤ elapsed s.pins.now s.tIdle)

/-- The outputs hold a code that the block never produces: DIR = 0b10 or MODE = 0b11 (R52, R128). -/
def Outputs.reserved (o : Outputs) : Bool := o.dir == 0b10#2 || o.mode == 0b11#2

/-- The state can be run: a legal configuration (R126) and no reserved output code (R128). -/
def State.runnable (s : State) : Bool := s.cfg.legal && !s.out.reserved

/-- NOW is below the previous tick's NOW (R110). -/
def State.timeBackwards (s : State) : Bool := decide (s.pins.now < s.lastNow)

end Sys2Proof.Machine
end

