-- ==== Sys2Proof/Machine/Ops.lean ====
section
/-! DEFINITION. The shared operations: the refusals of 60_exceptions.md section 6 in one place, the write of each unit,
and the fetch of the host's next operation. The block takes no exception and returns from none (R113 to R116), so there
is no operation for either. -/

namespace Sys2Proof.Machine

/-- Answer `t` unless the state may not be run at all (R126, R128). DESIGN CHOICE: where both refusals apply the reason is
illegalConfig (assumption 24). -/
def guarded (s t : State) : Outcome :=
  if s.cfg.legal then
    if s.out.reserved then .refused .reservedOutputCode else .next t
  else .refused .illegalConfig

/-- Answer `t` with LAST_NOW at NOW, refusing besides when NOW goes backwards (R110). DESIGN CHOICE: the spec gives no
order of the refusals; where NOW < LAST_NOW in a state that may not be run at all, the reason is that of `guarded`,
illegalConfig or reservedOutputCode, and not timeBackwards (assumption 24). -/
def guardedAtNow (s t : State) : Outcome :=
  if s.runnable && s.timeBackwards then .refused .timeBackwards
  else guarded s { t with lastNow := s.pins.now }

/-- QDEC's write: drive DIR and load PREV, whatever the direction is (R56). -/
def qdecWrite (code cur : BitVec 2) (s : State) : State :=
  { s with prev := cur, out := { s.out with dir := code } }

/-- SWDET's write: an accepted toggle records NOW; LAST_LVL is loaded whatever `toggle` is (R80). -/
def swdetWrite (toggle level : Bool) (s : State) : State :=
  { s with
    toggle := toggle
    tTog := if toggle then s.pins.now else s.tTog
    vTog := toggle || s.vTog
    lastLvl := level }

/-- The phase one idle redraw further (R95). -/
def State.nextPhase (s : State) : BitVec 9 :=
  BitVec.ofNat 9 ((s.phase.toNat + s.cfg.hueStep) % Config.hueMod)

/-- ARB's write: MODE, PHASE_OUT at the phase before the redraw, and the idle generator, which redraws only in Idle mode
and when its cadence allows (R90, R95). -/
def arbWrite (mode : Mode) (s : State) : State :=
  let redraw := mode == .idle && s.idleDue
  { s with
    out := { s.out with mode := mode.code, phaseOut := s.phase, idleRedraw := redraw }
    phase := if redraw then s.nextPhase else s.phase
    tIdle := if redraw then s.pins.now else s.tIdle
    vIdle := redraw || s.vIdle }

/-- The effect of RESET (R129): every state element at its reset value, the three unspecified timestamps drawn free
(assumption 6), the outputs at theirs. -/
def resetWrite (s : State) : State :=
  { s with
    prev := s.cfg.qdecPrevReset
    lastLvl := s.cfg.swLevelReset
    vTog := false
    tTog := Config.freeTime s.draws
    vVol := false
    tVol := Config.freeTime (s.draws + 1)
    vIdle := false
    tIdle := Config.freeTime (s.draws + 2)
    phase := BitVec.ofNat 9 s.cfg.phaseReset
    vol := BitVec.ofNat 7 s.cfg.volReset
    play := s.cfg.playReset
    out := Outputs.reset s.cfg
    lastNow := 0
    toggle := false
    draws := s.draws + 3 }

/-- The outputs of an operation with no tick: every strobe 0 and DIR 0b00, the level outputs kept (R109). -/
def Outputs.hold (o : Outputs) : Outputs :=
  { o with
    dir := 0b00#2
    cmdVolInc := false
    cmdVolDec := false
    cmdPpToggle := false
    volRedraw := false
    ppRedraw := false
    idleRedraw := false }

/-- The operation the next step runs, and the state it runs it in: the oldest pending one, with its levels on the
inputs, or HOLD when the host asserts nothing (R109, assumption 7). -/
def State.fetch (s : State) : Word × State :=
  match s.queue with
  | [] => (.ctrl 0b00#2, s)
  | x :: rest => (x.word, { s with queue := rest, pins := x.pins })

/-- The operation's word with the levels that stand on the inputs, at the head of the queue; NOW is not before LAST_NOW,
as the host must supply it (R110, R133). -/
def State.offer (s : State) (w : Word) : State :=
  { s with queue := ⟨w, { s.pins with now := max s.pins.now s.lastNow }⟩ :: s.queue }

end Sys2Proof.Machine
end

