-- ==== Sys2Proof/Machine/Arb.lean ====
section
/-! DEFINITION. ARB (42_arbiter.md): the arbiter step of a tick, and the four entries of the window space. -/

namespace Sys2Proof.Machine

/-- The ARB step of a tick: the windows, the multiplexer and the idle generator (R89, R90, R95). -/
def arbStep (s : State) : State := arbWrite (muxMode s.volWindow s.ppWindow) s

/-- WIN11: both windows active, Volume (R91). -/
def execWin11 (s : State) : Outcome := guarded s (arbWrite .volume s)

/-- WIN10: only the volume window active, Volume (R92). -/
def execWin10 (s : State) : Outcome := guarded s (arbWrite .volume s)

/-- WIN01: only the play/pause window active, PlayPause (R93). -/
def execWin01 (s : State) : Outcome := guarded s (arbWrite .playPause s)

/-- WIN00: no window active, Idle, and the idle generator may redraw (R94, R95). It reads NOW, so NOW must not go
backwards (assumption 10). -/
def execWin00 (s : State) : Outcome := guardedAtNow s (arbWrite .idle s)

end Sys2Proof.Machine
end

