-- ==== Sys2Proof/Machine/Event.lean ====
section
/-! DEFINITION. The event-application stage (43_event_apply.md): the volume part, the play part, and the order in which
a host acts on the strobes of one tick. -/

namespace Sys2Proof.Machine

/-- vol' of R100 for a direction. -/
def State.volNext (s : State) (d : Int) : BitVec 7 :=
  if d = 0 then s.vol
  else BitVec.ofInt 7 (clamp (s.vol.toNat + s.cfg.volStep * d) Config.volMin Config.volMax)

/-- A step that the clamp absorbs entirely (R100). -/
def State.nullStep (s : State) (d : Int) : Bool := decide (d ≠ 0) && s.volNext d == s.vol

/-- vol_evt of R101. -/
def State.volEvent (s : State) (d : Int) : Bool :=
  decide (d ≠ 0) && (!s.nullStep d || s.cfg.volTsOnClamp)

/-- cmd_ok of R103. -/
def State.cmdOk (s : State) (d : Int) : Bool := !s.nullStep d || s.cfg.cmdOnClamp

/-- The volume part, on the direction that DIR holds: VOL, the volume timestamp, the volume commands and VOL_REDRAW
(R100, R101, R103, R104). -/
def volumePart (s : State) : State :=
  let d := dirValue s.out.dir
  { s with
    vol := s.volNext d
    tVol := if s.volEvent d then s.pins.now else s.tVol
    vVol := s.volEvent d || s.vVol
    out := { s.out with
      vol := s.volNext d
      cmdVolInc := decide (d = 1) && s.cmdOk d
      cmdVolDec := decide (d = -1) && s.cmdOk d
      volRedraw := s.volEvent d } }

/-- The play part, on SWDET's toggle: PLAY, CMD_PP_TOGGLE and PP_REDRAW (R102, R103, R104). -/
def playPart (s : State) : State :=
  { s with
    play := s.toggle ^^ s.play
    out := { s.out with
      play := s.toggle ^^ s.play
      cmdPpToggle := s.toggle
      ppRedraw := s.toggle } }

/-- The strobe outputs. -/
inductive Strobe where
  | cmdVolInc
  | cmdVolDec
  | volRedraw
  | cmdPpToggle
  | ppRedraw
  | idleRedraw
  deriving DecidableEq, Repr

/-- Whether a strobe is asserted. -/
def Outputs.asserts (o : Outputs) : Strobe → Bool
  | .cmdVolInc => o.cmdVolInc
  | .cmdVolDec => o.cmdVolDec
  | .volRedraw => o.volRedraw
  | .cmdPpToggle => o.cmdPpToggle
  | .ppRedraw => o.ppRedraw
  | .idleRedraw => o.idleRedraw

/-- The asserted strobes in the order a host that serialises them must act on them (R105). -/
def Outputs.strobes (o : Outputs) : List Strobe :=
  [.cmdVolInc, .cmdVolDec, .volRedraw, .cmdPpToggle, .ppRedraw, .idleRedraw].filter o.asserts

end Sys2Proof.Machine
end

