-- ==== Sys2Proof/Machine/Qdec.lean ====
section
/-! DEFINITION. QDEC (40_qdec.md): the decode step of a tick, and the sixteen entries of the key space. -/

namespace Sys2Proof.Machine

/-- The QDEC step of a tick: read the ROM at the key, drive DIR, load PREV with CUR (R56). -/
def qdecStep (s : State) : State :=
  qdecWrite (romRead s.cfg.polarity s.key) s.pins.cur s

/-- A key entry: the direction it gives under each polarity, and the current pair of its key, which PREV takes. -/
def qdecEntry (dirClk dirDt : Int) (cur : BitVec 2) (s : State) : Outcome :=
  guarded s (qdecWrite (dirCode (match s.cfg.polarity with | .clkLeadsCw => dirClk | .dtLeadsCw => dirDt)) cur s)

/-- KEY0: no line changed (R63). -/
def execKey0 (s : State) : Outcome := qdecEntry 0 0 0b00#2 s

/-- KEY1: DT rose, CLK low (R64). -/
def execKey1 (s : State) : Outcome := qdecEntry (-1) 1 0b01#2 s

/-- KEY2: CLK rose, DT low (R65). -/
def execKey2 (s : State) : Outcome := qdecEntry 1 (-1) 0b10#2 s

/-- KEY3: both lines rose (R66). -/
def execKey3 (s : State) : Outcome := qdecEntry 0 0 0b11#2 s

/-- KEY4: DT fell, CLK low (R67). -/
def execKey4 (s : State) : Outcome := qdecEntry 1 (-1) 0b00#2 s

/-- KEY5: no line changed (R68). -/
def execKey5 (s : State) : Outcome := qdecEntry 0 0 0b01#2 s

/-- KEY6: CLK rose, DT fell (R69). -/
def execKey6 (s : State) : Outcome := qdecEntry 0 0 0b10#2 s

/-- KEY7: CLK rose, DT high (R70). -/
def execKey7 (s : State) : Outcome := qdecEntry (-1) 1 0b11#2 s

/-- KEY8: CLK fell, DT low (R71). -/
def execKey8 (s : State) : Outcome := qdecEntry (-1) 1 0b00#2 s

/-- KEY9: CLK fell, DT rose (R72). -/
def execKey9 (s : State) : Outcome := qdecEntry 0 0 0b01#2 s

/-- KEY10: no line changed (R73). -/
def execKey10 (s : State) : Outcome := qdecEntry 0 0 0b10#2 s

/-- KEY11: DT rose, CLK high (R74). -/
def execKey11 (s : State) : Outcome := qdecEntry 1 (-1) 0b11#2 s

/-- KEY12: both lines fell (R75). -/
def execKey12 (s : State) : Outcome := qdecEntry 0 0 0b00#2 s

/-- KEY13: CLK fell, DT high (R76). -/
def execKey13 (s : State) : Outcome := qdecEntry 1 (-1) 0b01#2 s

/-- KEY14: DT fell, CLK high (R77). -/
def execKey14 (s : State) : Outcome := qdecEntry (-1) 1 0b10#2 s

/-- KEY15: no line changed (R78). -/
def execKey15 (s : State) : Outcome := qdecEntry 0 0 0b11#2 s

end Sys2Proof.Machine
end

