-- ==== Sys2Proof/Machine/Swdet.lean ====
section
/-! DEFINITION. SWDET (41_swdet.md): the detect step of a tick, and the four entries of the edge space. -/

namespace Sys2Proof.Machine

/-- The SWDET step of a tick: a falling edge that passes the gate toggles (R80). -/
def swdetStep (s : State) : State :=
  swdetWrite (s.edgeCode == 0b10#2 && s.gate) s.pins.sw s

/-- EDGE_HELD: pressed, still pressed; no toggle (R81). -/
def execEdgeHeld (s : State) : Outcome := guarded s (swdetWrite false false s)

/-- EDGE_RISE: released; never a toggle (R82). -/
def execEdgeRise (s : State) : Outcome := guarded s (swdetWrite false true s)

/-- EDGE_FALL: pressed; a toggle when the gate passes (R83). It reads NOW, so NOW must not go backwards
(assumption 10). -/
def execEdgeFall (s : State) : Outcome := guardedAtNow s (swdetWrite s.gate false s)

/-- EDGE_IDLE: released, still released; no toggle (R84). -/
def execEdgeIdle (s : State) : Outcome := guarded s (swdetWrite false true s)

end Sys2Proof.Machine
end

