-- ==== Sys2Proof/Machine/Ctrl.lean ====
section
/-! DEFINITION. The control space: RESET (70_reset_and_hazards.md), TICK and HOLD (44_tick.md). -/

namespace Sys2Proof.Machine

/-- RESET, whatever the TICK bit beside RST is: no input is sampled (R48, R129). -/
def execReset (_tickBit : Bool) (s : State) : Outcome := guarded s (resetWrite s)

/-- The five parts of a tick in their order (R37, R108): QDEC, the volume part, SWDET, the play part, ARB. Each part
writes registers of its own, so ARB sees this tick's timestamps and every other read is of the state at the start. -/
def tickWrite (s : State) : State :=
  arbStep (playPart (swdetStep (volumePart (qdecStep s))))

/-- The locals of R108 as functions of the state and the inputs at the start of the tick: the direction, `toggle`, the
timestamps and valid bits that ARB sees, the two windows, the mode, and whether the idle generator redraws. -/
def State.tickDir (s : State) : Int := dirValue (romRead s.cfg.polarity s.key)
def State.tickToggle (s : State) : Bool := s.edgeCode == 0b10#2 && s.gate
def State.tickVolEvt (s : State) : Bool := s.volEvent s.tickDir
def State.tickTVol (s : State) : Nat := if s.tickVolEvt then s.pins.now else s.tVol
def State.tickVVol (s : State) : Bool := s.tickVolEvt || s.vVol
def State.tickTTog (s : State) : Nat := if s.tickToggle then s.pins.now else s.tTog
def State.tickVTog (s : State) : Bool := s.tickToggle || s.vTog
def State.tickVolWin (s : State) : Bool :=
  s.tickVVol && decide (elapsed s.pins.now s.tickTVol < s.cfg.volWin)
def State.tickPpWin (s : State) : Bool :=
  s.tickVTog && decide (elapsed s.pins.now s.tickTTog < s.cfg.ppWin)
def State.tickMode (s : State) : Mode := muxMode s.tickVolWin s.tickPpWin
def State.tickRedraw (s : State) : Bool := s.tickMode == .idle && s.idleDue

/-- TICK: refused when NOW goes backwards, otherwise the five parts and LAST_NOW at NOW (R108, R110). -/
def execTick (s : State) : Outcome := guardedAtNow s (tickWrite s)

/-- HOLD: no state element changes, every strobe is 0 and DIR is 0b00 (R109). -/
def execHold (s : State) : Outcome :=
  guarded s { s with out := s.out.hold, toggle := false }

end Sys2Proof.Machine
end

