-- ==== Sys2Proof/Machine/Dispatch.lean ====
section
/-! DEFINITION. The dispatch: one arm a constructor, each one call of its meaning. -/

namespace Sys2Proof.Machine

def exec (i : Instr) (s : State) : Host.Outcome State Fault Refusal :=
  match i with
  | .reset t => Sys2Proof.Machine.execReset t s
  | .tick => Sys2Proof.Machine.execTick s
  | .hold => Sys2Proof.Machine.execHold s
  | .key0 => Sys2Proof.Machine.execKey0 s
  | .key1 => Sys2Proof.Machine.execKey1 s
  | .key2 => Sys2Proof.Machine.execKey2 s
  | .key3 => Sys2Proof.Machine.execKey3 s
  | .key4 => Sys2Proof.Machine.execKey4 s
  | .key5 => Sys2Proof.Machine.execKey5 s
  | .key6 => Sys2Proof.Machine.execKey6 s
  | .key7 => Sys2Proof.Machine.execKey7 s
  | .key8 => Sys2Proof.Machine.execKey8 s
  | .key9 => Sys2Proof.Machine.execKey9 s
  | .key10 => Sys2Proof.Machine.execKey10 s
  | .key11 => Sys2Proof.Machine.execKey11 s
  | .key12 => Sys2Proof.Machine.execKey12 s
  | .key13 => Sys2Proof.Machine.execKey13 s
  | .key14 => Sys2Proof.Machine.execKey14 s
  | .key15 => Sys2Proof.Machine.execKey15 s
  | .edgeHeld => Sys2Proof.Machine.execEdgeHeld s
  | .edgeRise => Sys2Proof.Machine.execEdgeRise s
  | .edgeFall => Sys2Proof.Machine.execEdgeFall s
  | .edgeIdle => Sys2Proof.Machine.execEdgeIdle s
  | .win11 => Sys2Proof.Machine.execWin11 s
  | .win10 => Sys2Proof.Machine.execWin10 s
  | .win01 => Sys2Proof.Machine.execWin01 s
  | .win00 => Sys2Proof.Machine.execWin00 s

end Sys2Proof.Machine
end

