-- ==== Sys2Proof/Machine/Step.lean ====
section
/-! DEFINITION. One step: fetch the host's next operation, decode its word, run it. -/

namespace Sys2Proof.Machine

/-- One step of the machine: one operation of the host (R3, R134), HOLD when none is pending (R109, assumption 7). -/
def step (s : State) : Host.Outcome State Fault Refusal :=
  exec (decode s.fetch.1) s.fetch.2

/-- `s` with a table word at the head of the pending operations, so that the next step runs it; `s` itself when the
number is no word (assumptions 7 and 11). -/
def State.withFetchWord (s : State) (nbits w : Nat) : State :=
  match tableWord nbits w with
  | some x => s.offer x
  | none => s

end Sys2Proof.Machine
end

