-- ==== Sys2Proof/Machine/Run.lean ====
section
/-! DEFINITION. Runs: a finite sequence of the host's operations, its final state and its observation (R134). -/

namespace Sys2Proof.Machine

/-- One operation of the host, run by one step from a state with nothing else pending. -/
def applyOp (x : Sample) (s : State) : Outcome := step { s with queue := [x] }

/-- A sequence of operations; a refusal ends it for good (R127). -/
def runOps : List Sample → State → Outcome
  | [], s => .next s
  | x :: xs, s =>
    match applyOp x s with
    | .next t => runOps xs t
    | .fault r => .fault r
    | .refused r => .refused r

/-- The outputs of each operation of a sequence, up to the first that is refused (R134). -/
def observe : List Sample → State → List Outputs
  | [], _ => []
  | x :: xs, s =>
    match applyOp x s with
    | .next t => t.out :: observe xs t
    | _ => []

/-- The TICK, HOLD and RESET operations (R48). -/
def tickAt (p : Pins) : Sample := ⟨.ctrl 0b01#2, p⟩
def holdAt (p : Pins) : Sample := ⟨.ctrl 0b00#2, p⟩
def resetAt (p : Pins) : Sample := ⟨.ctrl 0b10#2, p⟩

/-- A TICK or a HOLD: an operation of the hardware that is no RESET. -/
def Sample.noReset (x : Sample) : Bool := x.word == .ctrl 0b01#2 || x.word == .ctrl 0b00#2

/-- An operation of the hardware: a word of the control space. -/
def Sample.isCtrl (x : Sample) : Bool := x.word.space == .ctrl

end Sys2Proof.Machine
end

