-- ==== Sys2Proof/Machine/Notation.lean ====
section
/-! DEFINITION. The program notation of 30_encoding.md section 5: its lines, the expansion of the pseudo-instructions
(R55), the encoded form of a line (R54) with its reader, and the operations a program is. -/

namespace Sys2Proof.Machine

/-- A line of a program after expansion: one operation (R54). -/
inductive Op where
  | reset
  | tick (clk dt sw : Bool) (now : Nat)
  | hold
  deriving DecidableEq, Repr

/-- A line as written: an operation or a pseudo-instruction (R54, R55). -/
inductive Line where
  | op (o : Op)
  | wait (now : Nat)
  | press (now : Nat)
  | release (now : Nat)
  | pins (clk dt : Bool) (now : Nat)
  deriving DecidableEq, Repr

/-- The fields that the pseudo-instructions copy: those of the nearest earlier `tick` line (R55). -/
structure Copied where
  clk : Bool
  dt : Bool
  sw : Bool
  deriving DecidableEq, Repr

/-- With no earlier `tick` line the idle-high rest is copied (R55). -/
def Copied.start : Copied := ⟨true, true, true⟩

/-- One line's operation (R55). -/
def Line.expand (c : Copied) : Line → Op
  | .op o => o
  | .wait t => .tick c.clk c.dt c.sw t
  | .press t => .tick c.clk c.dt false t
  | .release t => .tick c.clk c.dt true t
  | .pins a b t => .tick a b c.sw t

/-- What later lines copy after an operation. -/
def Copied.after (c : Copied) : Op → Copied
  | .tick clk dt sw _ => ⟨clk, dt, sw⟩
  | .reset => c
  | .hold => c

/-- A program's operations. -/
def expandFrom (c : Copied) : List Line → List Op
  | [] => []
  | l :: ls => l.expand c :: expandFrom (c.after (l.expand c)) ls

def expand (ls : List Line) : List Op := expandFrom Copied.start ls

/-- The operation as the host applies it. RESET is CTRL `10` and samples no input; RESET and HOLD carry the inputs at
rest (assumption 21). -/
def Op.sample : Op → Sample
  | .reset => resetAt (Pins.rest 0)
  | .tick clk dt sw now => tickAt ⟨clk, dt, sw, now⟩
  | .hold => holdAt (Pins.rest 0)

/-- A bit as a binary digit, and back. -/
def bitChar (b : Bool) : Char := if b then '1' else '0'

def charBit (c : Char) : Option Bool :=
  if c = '1' then some true else if c = '0' then some false else none

/-- The decimal digit of a number below ten, and back. -/
def digitChar (d : Nat) : Char := Char.ofNat (48 + d)

def charDigit (c : Char) : Option Nat :=
  if 48 ≤ c.toNat ∧ c.toNat ≤ 57 then some (c.toNat - 48) else none

/-- A number's decimal digits, least significant first, at most `fuel` of them. -/
def digitsRev : Nat → Nat → List Nat
  | 0, _ => []
  | fuel + 1, n => if n < 10 then [n] else (n % 10) :: digitsRev fuel (n / 10)

/-- A natural number in decimal, no leading zeros. -/
def decimal (n : Nat) : List Char := (digitsRev (n + 1) n).reverse.map digitChar

/-- The number a digit string stands for, read on from `acc`. -/
def readDigits (acc : Nat) : List Char → Option Nat
  | [] => some acc
  | c :: cs =>
    match charDigit c with
    | some d => readDigits (acc * 10 + d) cs
    | none => none

/-- The encoded form of an operation: `R`, `H`, or the input word `{CLK, DT, SW}` and `@T` (R54). -/
def Op.encode : Op → List Char
  | .reset => ['R']
  | .hold => ['H']
  | .tick clk dt sw now => bitChar clk :: bitChar dt :: bitChar sw :: '@' :: decimal now

/-- The reader of the encoded form. -/
def Op.decode : List Char → Option Op
  | ['R'] => some .reset
  | ['H'] => some .hold
  | a :: b :: c :: '@' :: d :: ds =>
    match charBit a, charBit b, charBit c, readDigits 0 (d :: ds) with
    | some clk, some dt, some sw, some now => some (.tick clk dt sw now)
    | _, _, _, _ => none
  | _ => none

/-- A line less its comment, which a semicolon starts (R54). -/
def dropComment (cs : List Char) : List Char := cs.takeWhile (· != ';')

end Sys2Proof.Machine
end

