-- ==== Sys2Proof/Safety.lean ====
section
/-! DEFINITION. What claims call a good state: the invariant of every step, the spacing of idle redraws from events, and
the windows that hold after a tick. -/

namespace Sys2Proof.Machine

/-- The invariant every step keeps: the configuration is legal (R126), no reserved code stands on an output (R52), VOL
and PHASE are in range (R21, R22, R106), every valid timestamp is at or before LAST_NOW (R110), and the VOL and PLAY
ports show their registers (R15). -/
structure State.Inv (s : State) : Prop where
  legal : s.cfg.legal = true
  codes : s.out.reserved = false
  volRange : s.vol.toNat ≤ 100
  phaseRange : s.phase.toNat < 360
  phaseOutRange : s.out.phaseOut.toNat < 360
  togPast : s.vTog = true → s.tTog ≤ s.lastNow
  volPast : s.vVol = true → s.tVol ≤ s.lastNow
  idlePast : s.vIdle = true → s.tIdle ≤ s.lastNow
  volPort : s.out.vol = s.vol
  playPort : s.out.play = s.play
  oneVolCommand : (s.out.cmdVolInc && s.out.cmdVolDec) = false

/-- The last idle redraw is not inside a window: it is at or before the window's event, or at or after its end. This is
what R98 (d) rests on; TICK, RESET and HOLD keep it. -/
structure State.IdleApart (s : State) : Prop where
  vol : s.vIdle = true → s.vVol = true → s.tIdle ≤ s.tVol ∨ s.tVol + s.cfg.volWin ≤ s.tIdle
  tog : s.vIdle = true → s.vTog = true → s.tIdle ≤ s.tTog ∨ s.tTog + s.cfg.ppWin ≤ s.tIdle

/-- R108's pseudocode in one piece: every read is of the state at the start of the tick, every write lands at its end.
The model's TICK is the chain of its units; the claim that the two agree is an obligation. -/
def tickSpec (s : State) : State :=
  let now := s.pins.now
  let cur := bits2 s.pins.clk s.pins.dt
  let code := romRead s.cfg.polarity (Sys2Proof.key s.prev cur)
  let dir := dirValue code
  let vol' : BitVec 7 :=
    if dir ≠ 0 then BitVec.ofInt 7 (clamp (s.vol.toNat + s.cfg.volStep * dir) 0 100) else s.vol
  let null := if dir ≠ 0 then vol' == s.vol else false
  let volEvt := decide (dir ≠ 0) && (!null || s.cfg.volTsOnClamp)
  let cmdOk := !null || s.cfg.cmdOnClamp
  let tVol' := if volEvt then now else s.tVol
  let vVol' := if volEvt then true else s.vVol
  let gate := s.vTog == false || decide (now - s.tTog > s.cfg.debounce)
  let toggle := bits2 s.lastLvl s.pins.sw == 0b10#2 && gate
  let tTog' := if toggle then now else s.tTog
  let vTog' := if toggle then true else s.vTog
  let play' := if toggle then !s.play else s.play
  let volWin := vVol' == true && decide (now - tVol' < s.cfg.volWin)
  let ppWin := vTog' == true && decide (now - tTog' < s.cfg.ppWin)
  let mode : Mode := if volWin then .volume else if ppWin then .playPause else .idle
  let redraw := mode == .idle && (s.vIdle == false || decide (now - s.tIdle ≥ s.cfg.idleCadence))
  let phase' : BitVec 9 := if redraw then BitVec.ofNat 9 ((s.phase.toNat + s.cfg.hueStep) % 360) else s.phase
  { s with
    prev := cur
    lastLvl := s.pins.sw
    tVol := tVol'
    vVol := vVol'
    vol := vol'
    tTog := tTog'
    vTog := vTog'
    play := play'
    tIdle := if redraw then now else s.tIdle
    vIdle := if redraw then true else s.vIdle
    phase := phase'
    lastNow := now
    toggle := toggle
    out := {
      dir := code
      mode := mode.code
      vol := vol'
      play := play'
      phaseOut := s.phase
      cmdVolInc := decide (dir = 1) && cmdOk
      cmdVolDec := decide (dir = -1) && cmdOk
      cmdPpToggle := toggle
      volRedraw := volEvt
      ppRedraw := toggle
      idleRedraw := redraw } }

/-- The sum of the directions that a sequence of operations put on DIR (R59). -/
def dirSum (os : List Outputs) : Int := (os.map fun o => dirValue o.dir).sum

/-- The Gray positions moved between two pairs: one step either way, or none when the lines did not change or both did
(R58, R59). -/
def grayMove (a b : BitVec 2) : Int :=
  if (gray b - gray a) % 4 = 1 then 1 else if (gray b - gray a) % 4 = 3 then -1 else 0

/-- The DOUBLE ticks along a sequence of pairs from a first one: J of R59. -/
def doubles : BitVec 2 → List (BitVec 2) → Nat
  | _, [] => 0
  | a, b :: bs => (if keyClass (Sys2Proof.key a b) = .double then 1 else 0) + doubles b bs

/-- The pairs that the TICKs of a sequence of operations sample, in order: a HOLD samples nothing (R59, R109). -/
def tickPairs (xs : List Sample) : List (BitVec 2) :=
  (xs.filter (·.word == .ctrl 0b01#2)).map (·.pins.cur)

/-- The Gray positions moved along a sequence of pairs (R59). -/
def grayMoves : BitVec 2 → List (BitVec 2) → Int
  | _, [] => 0
  | a, b :: bs => grayMove a b + grayMoves b bs

/-- The fields a tick line gives to the pseudo-instructions after it, and the nearest earlier tick line's (R55). -/
def Op.fields : Op → Option Copied
  | .tick clk dt sw _ => some ⟨clk, dt, sw⟩
  | .reset => none
  | .hold => none

def nearestTick (os : List Op) : Copied := (os.reverse.findSome? Op.fields).getD Copied.start

/-- A tick's outputs carry no event: no step that counts as a volume change, and no toggle (R96). -/
def Outputs.quiet (o : Outputs) : Bool := !o.volRedraw && !o.cmdPpToggle

/-- How many outputs of a run carry a toggle (R102). -/
def toggles (os : List Outputs) : Nat := os.countP (·.cmdPpToggle)

/-- An operation can be run in a state: the state may be run at all, and NOW does not go backwards (R110, R113). -/
def State.canTick (s : State) : Bool := s.runnable && !s.timeBackwards

end Sys2Proof.Machine
end

