-- ==== Sys2Proof/Certificates/Slice0/Obligations.lean ====
section
/-! DEFINITION. The statements for the provers: what the numbered rules of spec/ say an operation does, frames and
completion with them (a result is stated as the whole next state wherever the instruction's effect is small), the laws of
the units over runs, and the invariants of every step. -/

open Sys2Proof Sys2Proof.Machine

/-! ### Words, decoding, the step -/

/-- The step runs the operation at the head of the queue, and HOLD when none is pending (model's choice, assumption 7). -/
def Obligations.StepRunsDecodedOperation : Prop :=
  (∀ (s : State) (x : Sample) (rest : List Sample), s.queue = x :: rest →
    step s = exec (decode x.word) { s with queue := rest, pins := x.pins }) ∧
  (∀ s : State, s.queue = [] → step s = exec .hold s)

/-- Words written out from R45 to R48 decode to their instructions. -/
def Obligations.WordsOfEachSpaceDecode : Prop :=
  decode (.ctrl 0b10#2) = .reset false ∧ decode (.ctrl 0b11#2) = .reset true ∧
  decode (.ctrl 0b01#2) = .tick ∧ decode (.ctrl 0b00#2) = .hold ∧
  decode (.qkey 0b0001#4) = .key1 ∧ decode (.qkey 0b0010#4) = .key2 ∧
  decode (.qkey 0b1101#4) = .key13 ∧ decode (.qkey 0b1110#4) = .key14 ∧
  decode (.sedge 0b01#2) = .edgeRise ∧ decode (.sedge 0b10#2) = .edgeFall ∧
  decode (.awin 0b10#2) = .win10 ∧ decode (.awin 0b01#2) = .win01

/-- Every word of every space matches exactly one row of the opcode table, and the row stands for what it decodes to. -/
def Obligations.EveryWordMatchesOneTableRow : Prop :=
  ∀ w : Word, ∃ r : TableRow, opcodeRows.filter (·.matchesWord w) = [r] ∧ decode w ∈ r.instrs

/-- Decoding and encoding are inverse, on every instruction and on every word: no bit is dropped. -/
def Obligations.DecodeAndEncodeAreInverse : Prop :=
  (∀ i : Instr, i.wf = true → decode (encode i) = i) ∧ (∀ w : Word, encode (decode w) = w)

/-- The encoded form of an operation reads back as that operation, for every time (R54). -/
def Obligations.EncodedLineReadsBack : Prop :=
  ∀ o : Op, Op.decode o.encode = some o

/-- A pseudo-instruction is one tick line whose other fields are those of the nearest earlier tick line, or 1 with none
(R55). -/
def Obligations.PseudoInstructionsCopyNearestTick : Prop :=
  ∀ (ls : List Line) (t : Nat) (a b : Bool),
    let c := nearestTick (expand ls)
    expand (ls ++ [.wait t]) = expand ls ++ [.tick c.clk c.dt c.sw t] ∧
    expand (ls ++ [.press t]) = expand ls ++ [.tick c.clk c.dt false t] ∧
    expand (ls ++ [.release t]) = expand ls ++ [.tick c.clk c.dt true t] ∧
    expand (ls ++ [.pins a b t]) = expand ls ++ [.tick a b c.sw t] ∧
    (∀ o : Op, expand (ls ++ [.op o]) = expand ls ++ [o]) ∧
    expand [] = [] ∧ nearestTick [] = ⟨true, true, true⟩

/-! ### The control space -/

/-- RST outranks TICK: the four values of CTRL (R48), and both RESET words do the same. -/
def Obligations.ControlWordSelectsOperation : Prop :=
  (∀ t : Bool, decode (.ctrl (bits2 true t)) = .reset t) ∧
  decode (.ctrl (bits2 false true)) = .tick ∧ decode (.ctrl (bits2 false false)) = .hold ∧
  (∀ s : State, exec (.reset true) s = exec (.reset false) s)

/-- RESET loads every reset value and the outputs' reset values, whatever the state was, leaves the unspecified
timestamps free, samples no input (R129), and does not revive a refused run. The clause that it clears the toggle net is
the model's choice (assumption 16), and so is the counter of free draws (assumption 6). -/
def Obligations.ResetLoadsEveryResetValue : Prop :=
  (∀ (s : State) (t : Bool), s.runnable = true →
    decode (.ctrl (bits2 true t)) = .reset t ∧
    ∃ (tTog tVol tIdle : Nat) (draws : Nat), exec (.reset t) s = .next { s with
      prev := s.cfg.qdecPrevReset
      lastLvl := s.cfg.swLevelReset
      vTog := false
      tTog := tTog
      vVol := false
      tVol := tVol
      vIdle := false
      tIdle := tIdle
      phase := BitVec.ofNat 9 s.cfg.phaseReset
      vol := BitVec.ofNat 7 s.cfg.volReset
      play := s.cfg.playReset
      lastNow := 0
      toggle := false
      draws := draws
      out := {
        dir := 0b00#2
        cmdVolInc := false
        cmdVolDec := false
        cmdPpToggle := false
        volRedraw := false
        ppRedraw := false
        idleRedraw := false
        phaseOut := BitVec.ofNat 9 s.cfg.phaseReset
        mode := 0b00#2
        vol := BitVec.ofNat 7 s.cfg.volReset
        play := s.cfg.playReset } }) ∧
  (∀ (s : State) (x : Sample) (p : Pins) (r : Refusal), applyOp x s = .refused r →
    runOps [x, resetAt p] s = .refused r)

/-- HOLD changes no state element; every strobe is 0 and DIR is 0b00; MODE, VOL, PLAY and PHASE_OUT keep their values;
and it samples nothing: the levels on the inputs make no difference (R109). The clause that it clears the toggle net, a
field of the model's own, is the model's choice (assumption 16). -/
def Obligations.HoldChangesNoState : Prop :=
  decode (.ctrl 0b00#2) = .hold ∧
  (∀ s : State, s.runnable = true →
    exec .hold s = .next { s with
      toggle := false
      out := { s.out with
        dir := 0b00#2
        cmdVolInc := false
        cmdVolDec := false
        cmdPpToggle := false
        volRedraw := false
        ppRedraw := false
        idleRedraw := false } }) ∧
  (∀ (s t : State) (p q : Pins), exec .hold { s with pins := p } = .next t →
    exec .hold { s with pins := q } = .next { t with pins := q })

/-- TICK is R108's pseudocode: with NOW not before LAST_NOW its next state is the pseudocode's, in every field, and with
NOW before LAST_NOW it is refused. -/
def Obligations.TickIsTheComposedStep : Prop :=
  decode (.ctrl 0b01#2) = .tick ∧
  ∀ s : State, s.runnable = true →
    (s.lastNow ≤ s.pins.now → exec .tick s = .next (tickSpec s)) ∧
    (s.pins.now < s.lastNow → exec .tick s = .refused .timeBackwards)

/-- TICK runs exactly the entries its words select: the key entry, then the volume part, the edge entry, the play part
and the window entry, each on what the ones before it left (R37, and the paragraph before R42); that an entry is an
operation of its own is the model's choice (assumptions 9, 10 and 22). -/
def Obligations.TickRunsTheSelectedEntries : Prop :=
  ∀ s : State, s.canTick = true →
    ∃ s₁ s₃ s₅ : State,
      exec (decode (.qkey (Sys2Proof.key s.prev (bits2 s.pins.clk s.pins.dt)))) s = .next s₁ ∧
      exec (decode (.sedge (bits2 s.lastLvl s.pins.sw))) (volumePart s₁) = .next s₃ ∧
      exec (decode (.awin (bits2 (playPart s₃).volWindow (playPart s₃).ppWindow))) (playPart s₃) = .next s₅ ∧
      exec .tick s = .next { s₅ with lastNow := s.pins.now }

/-- A TICK with NOW below the previous TICK's is refused, and whatever operations come after it, RESET included, the run
stays refused and shows no further output; so does a run refused at any later operation (R127). -/
def Obligations.BackwardTickIsRefusedForGood : Prop :=
  ∀ (s : State) (p : Pins) (xs : List Sample), s.runnable = true → p.now < s.lastNow →
    applyOp (tickAt p) s = .refused .timeBackwards ∧
    runOps (tickAt p :: xs) s = .refused .timeBackwards ∧
    observe (tickAt p :: xs) s = [] ∧
    (∀ (ys zs : List Sample) (u : State) (r : Refusal), runOps ys u = .refused r →
      runOps (ys ++ zs) u = .refused r ∧ observe (ys ++ zs) u = observe ys u)

/-- The block raises no exception: no step ends in a fault, and every TICK with a legal configuration, no reserved code
and a monotonic NOW completes (R113). -/
def Obligations.EveryMonotonicTickCompletes : Prop :=
  (∀ (s : State) (f : Fault), step s ≠ .fault f) ∧
  (∀ s : State, s.cfg.legal = true → s.out.dir ≠ 0b10#2 → s.out.mode ≠ 0b11#2 → s.lastNow ≤ s.pins.now →
    ∃ t : State, exec .tick s = .next t)

/-- A configuration outside the legal ranges of R6 is refused (R126), at every operation, which is the model's reading of
'before the first step' (assumption 12); that the reason is illegalConfig also where another refusal applies too is the
model's choice (assumption 24). The ranges are those of R6; that TIME_UNIT is a rational number of milliseconds,
and so divides every window, each a count of it, with nothing left to check, is the model's choice (assumption 20). -/
def Obligations.IllegalConfigurationIsRefused : Prop :=
  (∀ (s : State) (i : Instr), s.cfg.legal = false → exec i s = .refused .illegalConfig) ∧
  (∀ c : Config, c.legal = true ↔
    0 < c.timeUnitMs ∧ (∀ w, c.timeW = some w → 12 ≤ w) ∧ 1 ≤ c.volWin ∧ 1 ≤ c.ppWin ∧ 1 ≤ c.idleCadence ∧
    (1 ≤ c.volStep ∧ c.volStep ≤ 100) ∧ (1 ≤ c.hueStep ∧ c.hueStep ≤ 359) ∧ c.volReset ≤ 100 ∧ c.phaseReset ≤ 359) ∧
  (∀ (c : Config) (n : Nat), c.legal = true → c.duration n / c.timeUnitMs = n)

/-- DIR = 0b10 and MODE = 0b11 are never produced, and a state whose outputs hold one is refused (R128); that every
operation refuses it, RESET included, is the model's reading (assumption 13), and so is the reason where another refusal
applies too (assumption 24). -/
def Obligations.ReservedCodesAreNeverProducedAndRefused : Prop :=
  (∀ (s t : State) (i : Instr), exec i s = .next t → t.out.dir ≠ 0b10#2 ∧ t.out.mode ≠ 0b11#2) ∧
  (∀ (s : State) (i : Instr), s.cfg.legal = true → (s.out.dir = 0b10#2 ∨ s.out.mode = 0b11#2) →
    exec i s = .refused .reservedOutputCode)

/-! ### QDEC -/

/-- The sixteen key entries, each run alone (the model's choice, assumptions 9 and 22): DIR takes the entry's code under the
polarity, PREV the new pair of its key, and nothing else changes (R63 to R78). -/
def Obligations.KeyEntriesDriveDirAndLoadPrev : Prop :=
  ∀ s : State, s.runnable = true →
    let leaves (prev dir : BitVec 2) : State := { s with prev := prev, out := { s.out with dir := dir } }
    let cw : BitVec 2 := if s.cfg.polarity = .clkLeadsCw then 0b01#2 else 0b11#2
    let ccw : BitVec 2 := if s.cfg.polarity = .clkLeadsCw then 0b11#2 else 0b01#2
    (exec .key0 s = .next (leaves 0b00#2 0b00#2) ∧ exec .key1 s = .next (leaves 0b01#2 ccw) ∧
      exec .key2 s = .next (leaves 0b10#2 cw) ∧ exec .key3 s = .next (leaves 0b11#2 0b00#2)) ∧
    (exec .key4 s = .next (leaves 0b00#2 cw) ∧ exec .key5 s = .next (leaves 0b01#2 0b00#2) ∧
      exec .key6 s = .next (leaves 0b10#2 0b00#2) ∧ exec .key7 s = .next (leaves 0b11#2 ccw)) ∧
    (exec .key8 s = .next (leaves 0b00#2 ccw) ∧ exec .key9 s = .next (leaves 0b01#2 0b00#2) ∧
      exec .key10 s = .next (leaves 0b10#2 0b00#2) ∧ exec .key11 s = .next (leaves 0b11#2 cw)) ∧
    (exec .key12 s = .next (leaves 0b00#2 0b00#2) ∧ exec .key13 s = .next (leaves 0b01#2 cw) ∧
      exec .key14 s = .next (leaves 0b10#2 ccw) ∧ exec .key15 s = .next (leaves 0b11#2 0b00#2))

/-- A TICK on which neither line changed is no step: DIR 0b00, PREV unchanged in value, no volume command, no redraw, VOL
and its timestamp unchanged (R63, R68, R73, R78). -/
def Obligations.NoChangeTickIsNoStep : Prop :=
  ∀ s : State, s.canTick = true → s.prev = s.pins.cur →
    ∃ t : State, exec .tick s = .next t ∧ t.out.dir = 0b00#2 ∧ t.prev = s.prev ∧
      t.vol = s.vol ∧ t.vVol = s.vVol ∧ t.tVol = s.tVol ∧
      t.out.cmdVolInc = false ∧ t.out.cmdVolDec = false ∧ t.out.volRedraw = false

/-- A TICK on which both lines changed is no step: DIR 0b00, PREV takes the new pair, no volume command, no redraw, VOL and
its timestamp unchanged; and the next single-line change decodes normally (R66, R69, R72, R75). -/
def Obligations.DoubleTickIsNoStep : Prop :=
  ∀ s : State, s.canTick = true → s.prev ^^^ s.pins.cur = 0b11#2 →
    ∃ t : State, exec .tick s = .next t ∧ t.out.dir = 0b00#2 ∧ t.prev = s.pins.cur ∧
      t.vol = s.vol ∧ t.vVol = s.vVol ∧ t.tVol = s.tVol ∧
      t.out.cmdVolInc = false ∧ t.out.cmdVolDec = false ∧ t.out.volRedraw = false ∧
      ∀ p : Pins, t.prev ^^^ p.cur = 0b01#2 ∨ t.prev ^^^ p.cur = 0b10#2 → s.pins.now ≤ p.now →
        ∃ u : State, exec .tick { t with pins := p } = .next u ∧
          u.out.dir = romRead s.cfg.polarity (Sys2Proof.key t.prev p.cur) ∧ u.out.dir ≠ 0b00#2 ∧ u.prev = p.cur

/-- A TICK on which exactly one line changed is a step: keys 2, 4, 11 and 13 are +1 and keys 1, 7, 8 and 14 are -1 under
CLK_LEADS_CW, and the other way round under DT_LEADS_CW; PREV takes the new pair
(R64, R65, R67, R70, R71, R74, R76, R77). -/
def Obligations.SingleTickIsOneStep : Prop :=
  ∀ s : State, s.canTick = true →
    let k := Sys2Proof.key s.prev s.pins.cur
    (k = 2#4 ∨ k = 4#4 ∨ k = 11#4 ∨ k = 13#4 →
      ∃ t : State, exec .tick s = .next t ∧ t.prev = s.pins.cur ∧
        t.out.dir = (if s.cfg.polarity = .clkLeadsCw then 0b01#2 else 0b11#2)) ∧
    (k = 1#4 ∨ k = 7#4 ∨ k = 8#4 ∨ k = 14#4 →
      ∃ t : State, exec .tick s = .next t ∧ t.prev = s.pins.cur ∧
        t.out.dir = (if s.cfg.polarity = .clkLeadsCw then 0b11#2 else 0b01#2))

/-- The QDEC step of every TICK: DIR is the ROM's code at the key {PREV, CUR}, and PREV takes CUR, whatever the
direction (R56). -/
def Obligations.TickReadsRomAtKey : Prop :=
  ∀ s : State, s.canTick = true →
    ∃ t : State, exec .tick s = .next t ∧
      t.out.dir = romRead s.cfg.polarity (s.prev ++ bits2 s.pins.clk s.pins.dt) ∧
      t.prev = bits2 s.pins.clk s.pins.dt

/-- The ROM's contents are the closed form of R57, under both polarities. -/
def Obligations.RomIsTheClosedForm : Prop :=
  ∀ (p : Polarity) (k : BitVec 4),
    romRead p k =
      (if keyPrev k ^^^ keyCur k = 0b00#2 ∨ keyPrev k ^^^ keyCur k = 0b11#2 then 0b00#2
       else if p.sign * (if (k.getLsbD 2 ^^ k.getLsbD 1) then 1 else -1) = 1 then 0b01#2 else 0b11#2)

/-- The ROM: addresses 0 to 15 and no other, rising, one code each; four +1 entries, four -1 entries and eight zero ones
(R29, R34). -/
def Obligations.RomHoldsSixteenCodes : Prop :=
  ∀ p : Polarity,
    (romImage p).map Prod.fst = List.range 16 ∧
    (∀ k : BitVec 4, (k.toNat, romRead p k) ∈ romImage p) ∧
    ((romImage p).countP (·.2 == 0b01#2)) = 4 ∧ ((romImage p).countP (·.2 == 0b11#2)) = 4 ∧
    ((romImage p).countP (·.2 == 0b00#2)) = 8

/-- The ROM in Gray positions: a SINGLE key's direction is the position's move in the polarity's sense, a DOUBLE key moves
two positions, a NOCHANGE key none (R58). -/
def Obligations.RomFollowsGrayPositions : Prop :=
  gray 0b11#2 = 0 ∧ gray 0b01#2 = 1 ∧ gray 0b00#2 = 2 ∧ gray 0b10#2 = 3 ∧
  ∀ (p : Polarity) (a b : BitVec 2),
    (keyClass (Sys2Proof.key a b) = .single →
      (dirValue (romRead p (Sys2Proof.key a b)) - p.sign * (gray b - gray a)) % 4 = 0) ∧
    (keyClass (Sys2Proof.key a b) = .double → (gray b - gray a) % 4 = 2) ∧
    (keyClass (Sys2Proof.key a b) = .noChange → gray b - gray a = 0)

/-- The net-count law over any sequence of TICKs with no RESET between them, HOLDs among them or not (R59): modulo 4 the directions add up to the Gray positions moved and
two a DOUBLE tick; with no DOUBLE tick the sum is exactly the positions moved, and a sequence that returns the pins to
where they started counts a multiple of 4. -/
def Obligations.NetCountLaw : Prop :=
  ∀ (xs : List Sample) (s t : State), (∀ x ∈ xs, x.noReset = true) → runOps xs s = .next t →
    let sum := dirSum (observe xs s)
    let pairs := tickPairs xs
    (sum - (s.cfg.polarity.sign * (gray t.prev - gray s.prev) + 2 * (doubles s.prev pairs : Int))) % 4 = 0 ∧
    (s.prev :: pairs).getLast? = some t.prev ∧
    (doubles s.prev pairs = 0 →
      sum = s.cfg.polarity.sign * grayMoves s.prev pairs ∧ (t.prev = s.prev → sum % 4 = 0))

/-- A line that bounces between two neighbouring pairs counts 0 when it settles back, and one step when it settles over
(R60 (c), (d)). -/
def Obligations.SingleLineBounceCountsNetStep : Prop :=
  ∀ (ps : List Pins) (s t : State) (b : BitVec 2), runOps (ps.map tickAt) s = .next t →
    (∀ p ∈ ps, p.cur = s.prev ∨ p.cur = b) → keyClass (Sys2Proof.key s.prev b) = .single →
    (t.prev = s.prev → dirSum (observe (ps.map tickAt) s) = 0) ∧
    (t.prev = b → dirSum (observe (ps.map tickAt) s) = dirValue (romRead s.cfg.polarity (Sys2Proof.key s.prev b)))

/-- PREV is always the pair of the previous tick, whatever its key was; so after a DOUBLE tick, which counts 0, the next
tick that differs from it in one line decodes as that transition's step (R61). -/
def Obligations.DecoderRecoversAfterDoubleTick : Prop :=
  ∀ (s s₁ s₂ : State) (p q : Pins), applyOp (tickAt p) s = .next s₁ → applyOp (tickAt q) s₁ = .next s₂ →
    s₁.prev = p.cur ∧ s₂.prev = q.cur ∧ s₂.out.dir = romRead s.cfg.polarity (Sys2Proof.key p.cur q.cur) ∧
    (keyClass (Sys2Proof.key s.prev p.cur) = .double → s₁.out.dir = 0b00#2 ∧
      (keyClass (Sys2Proof.key p.cur q.cur) = .single → s₂.out.dir ≠ 0b00#2))

/-- QDEC's output depends on PREV and CUR alone: two ticks with the same PREV, CLK and DT under the same polarity give the
same DIR and PREV, whatever else their states and inputs hold (R62). -/
def Obligations.QdecReadsOnlyPrevAndCur : Prop :=
  ∀ s₁ s₂ : State, s₁.canTick = true → s₂.canTick = true → s₁.cfg.polarity = s₂.cfg.polarity →
    s₁.prev = s₂.prev → s₁.pins.clk = s₂.pins.clk → s₁.pins.dt = s₂.pins.dt →
    ∃ t₁ t₂ : State, exec .tick s₁ = .next t₁ ∧ exec .tick s₂ = .next t₂ ∧
      t₁.out.dir = t₂.out.dir ∧ t₁.prev = t₂.prev

/-- What a tick sees of n encoder transitions in one sense since the last tick: n modulo 4, read as the nearest single
move; a turn of 3 counts one step of the wrong sign (R135). -/
def Obligations.TickSeesTransitionsModuloFour : Prop :=
  ∀ (s : State) (n : Nat), s.canTick = true →
    (s.pins.cur = pairAt (gray s.prev + n) →
      ∃ t : State, exec .tick s = .next t ∧ dirValue t.out.dir = s.cfg.polarity.sign *
        (if n % 4 = 1 then 1 else if n % 4 = 3 then -1 else 0)) ∧
    (s.pins.cur = pairAt (gray s.prev - n) →
      ∃ t : State, exec .tick s = .next t ∧ dirValue t.out.dir = - s.cfg.polarity.sign *
        (if n % 4 = 1 then 1 else if n % 4 = 3 then -1 else 0))

/-! ### SWDET -/

/-- EDGE_HELD, EDGE_RISE and EDGE_IDLE: no toggle, LAST_LVL takes the switch level, the timestamp and everything else
unchanged (R81, R82, R84); that an entry runs alone is the model's choice (assumptions 9 and 22). -/
def Obligations.EdgesWithoutTogglesLoadTheLevel : Prop :=
  ∀ s : State, s.runnable = true →
    exec .edgeHeld s = .next { s with toggle := false, lastLvl := false } ∧
    exec .edgeRise s = .next { s with toggle := false, lastLvl := true } ∧
    exec .edgeIdle s = .next { s with toggle := false, lastLvl := true }

/-- EDGE_FALL: the toggle is the gate; an accepted one records NOW; LAST_LVL is 0; nothing else changes but the ghost
LAST_NOW (R83); the model's choices are that an entry runs alone and that LAST_NOW then moves (assumptions 9, 10, 22). -/
def Obligations.FallingEdgeTogglesWhenGatePasses : Prop :=
  ∀ s : State, s.canTick = true →
    let gate := s.vTog == false || decide (s.pins.now - s.tTog > s.cfg.debounce)
    exec .edgeFall s = .next { s with
      toggle := gate
      tTog := if gate then s.pins.now else s.tTog
      vTog := if gate then true else s.vTog
      lastLvl := false
      lastNow := s.pins.now }

/-- SWDET in every TICK: a toggle is a falling edge that passes the strict debounce gate; an accepted toggle records NOW,
nothing else moves T_TOG; LAST_LVL takes SW whatever happens (R79, R80). -/
def Obligations.TickDetectsDebouncedPress : Prop :=
  ∀ s : State, s.canTick = true →
    let gate := s.vTog == false || decide (s.pins.now - s.tTog > s.cfg.debounce)
    let toggle := bits2 s.lastLvl s.pins.sw == 0b10#2 && gate
    ∃ t : State, exec .tick s = .next t ∧ t.toggle = toggle ∧ t.out.cmdPpToggle = toggle ∧ t.lastLvl = s.pins.sw ∧
      t.tTog = (if toggle then s.pins.now else s.tTog) ∧ t.vTog = (if toggle then true else s.vTog)

/-- At most one toggle a window: two toggles with no RESET between them are more than DEBOUNCE apart (R85). -/
def Obligations.TogglesAreMoreThanDebounceApart : Prop :=
  ∀ (s s₁ s₂ s₃ : State) (p q : Pins) (xs : List Sample), (∀ x ∈ xs, x.noReset = true) →
    applyOp (tickAt p) s = .next s₁ → s₁.out.cmdPpToggle = true →
    runOps xs s₁ = .next s₂ →
    applyOp (tickAt q) s₂ = .next s₃ → s₃.out.cmdPpToggle = true →
    q.now - p.now > s.cfg.debounce

/-- A suppressed press is lost: a tick that samples SW = 0 leaves LAST_LVL at 0, toggle or not, and once LAST_LVL is 0 no
tick toggles while SW stays 0, however much time passes; the tick that then samples SW = 1 does not toggle either (R86). -/
def Obligations.HeldPressNeverToggles : Prop :=
  (∀ (s t : State) (p : Pins), applyOp (tickAt p) s = .next t → p.sw = false → t.lastLvl = false) ∧
  (∀ (xs : List Sample) (s t : State), (∀ x ∈ xs, x.noReset = true) →
    (∀ p : Pins, tickAt p ∈ xs → p.sw = false) → s.lastLvl = false →
    runOps xs s = .next t → t.lastLvl = false ∧ (∀ o ∈ observe xs s, o.cmdPpToggle = false) ∧
      ∀ (q : Pins) (u : State), applyOp (tickAt q) t = .next u → q.sw = true → u.out.cmdPpToggle = false)

/-- Release bounce can toggle: after an accepted press that is then held (no toggle, no RESET), a sample of 1 and a sample
of 0 more than DEBOUNCE after the press toggle once more, and PLAY returns to its earlier value (R87). -/
def Obligations.ReleaseBounceTogglesAgain : Prop :=
  ∀ (s s₁ s₂ s₃ s₄ : State) (p q r : Pins) (xs : List Sample), (∀ x ∈ xs, x.noReset = true) →
    applyOp (tickAt p) s = .next s₁ → s₁.out.cmdPpToggle = true →
    runOps xs s₁ = .next s₂ → (∀ o ∈ observe xs s₁, o.cmdPpToggle = false) → s₂.lastLvl = false →
    applyOp (tickAt q) s₂ = .next s₃ → q.sw = true →
    applyOp (tickAt r) s₃ = .next s₄ → r.sw = false → r.now - p.now > s.cfg.debounce →
    s₃.out.cmdPpToggle = false ∧ s₄.out.cmdPpToggle = true ∧ s₄.play = s.play

/-- SWDET reads only its own registers, SW, NOW and DEBOUNCE: two ticks that agree on those agree on the toggle and on
what SWDET leaves, whatever the encoder lines and the rest of the state hold (R88). -/
def Obligations.SwdetReadsOnlyItsOwnRegisters : Prop :=
  ∀ s₁ s₂ : State, s₁.canTick = true → s₂.canTick = true → s₁.cfg.debounce = s₂.cfg.debounce →
    s₁.lastLvl = s₂.lastLvl → s₁.vTog = s₂.vTog → s₁.tTog = s₂.tTog →
    s₁.pins.sw = s₂.pins.sw → s₁.pins.now = s₂.pins.now →
    ∃ t₁ t₂ : State, exec .tick s₁ = .next t₁ ∧ exec .tick s₂ = .next t₂ ∧
      t₁.out.cmdPpToggle = t₂.out.cmdPpToggle ∧ t₁.lastLvl = t₂.lastLvl ∧ t₁.tTog = t₂.tTog ∧ t₁.vTog = t₂.vTog

/-! ### ARB -/

/-- WIN11, WIN10 and WIN01: the mode's code on MODE, no idle redraw, PHASE_OUT at the phase, nothing else changes
(R91, R92, R93, R95); that an entry runs alone is the model's choice (assumptions 9 and 22). -/
def Obligations.OpenWindowsSelectTheirMode : Prop :=
  ∀ s : State, s.runnable = true →
    exec .win11 s = .next { s with out := { s.out with mode := 0b01#2, phaseOut := s.phase, idleRedraw := false } } ∧
    exec .win10 s = .next { s with out := { s.out with mode := 0b01#2, phaseOut := s.phase, idleRedraw := false } } ∧
    exec .win01 s = .next { s with out := { s.out with mode := 0b10#2, phaseOut := s.phase, idleRedraw := false } }

/-- WIN00: Idle, and the idle generator redraws when its cadence allows (R94, R95); the model's choices are that an entry
runs alone and that the ghost LAST_NOW then moves with NOW (assumptions 9, 10, 22). -/
def Obligations.ClosedWindowsSelectIdleAndRedraw : Prop :=
  ∀ s : State, s.canTick = true →
    let redraw := s.vIdle == false || decide (s.pins.now - s.tIdle ≥ s.cfg.idleCadence)
    exec .win00 s = .next { s with
      phase := if redraw then BitVec.ofNat 9 ((s.phase.toNat + s.cfg.hueStep) % 360) else s.phase
      tIdle := if redraw then s.pins.now else s.tIdle
      vIdle := if redraw then true else s.vIdle
      lastNow := s.pins.now
      out := { s.out with mode := 0b00#2, phaseOut := s.phase, idleRedraw := redraw } }

/-- MODE in every TICK: the two strict windows over this tick's own timestamps, Volume before PlayPause before Idle
(R89, R90). -/
def Obligations.TickSelectsModeByPriority : Prop :=
  ∀ s : State, s.canTick = true →
    ∃ t : State, exec .tick s = .next t ∧
      let volWin := t.vVol && decide (s.pins.now - t.tVol < s.cfg.volWin)
      let ppWin := t.vTog && decide (s.pins.now - t.tTog < s.cfg.ppWin)
      t.out.mode = (if volWin then 0b01#2 else if ppWin then 0b10#2 else 0b00#2)

/-- The idle generator in every TICK: it redraws exactly in Idle mode when it never has or IDLE_CADENCE has passed; the
redraw presents the phase before the increment, advances it modulo 360 and records NOW; otherwise PHASE, T_IDLE and
V_IDLE are frozen (R95). -/
def Obligations.IdleGeneratorRedrawsAtCadence : Prop :=
  ∀ s : State, s.canTick = true →
    ∃ t : State, exec .tick s = .next t ∧ t.out.phaseOut = s.phase ∧
      t.out.idleRedraw =
        (t.out.mode == 0b00#2 && (s.vIdle == false || decide (s.pins.now - s.tIdle ≥ s.cfg.idleCadence))) ∧
      (t.out.idleRedraw = true →
        t.phase.toNat = (s.phase.toNat + s.cfg.hueStep) % 360 ∧ t.tIdle = s.pins.now ∧ t.vIdle = true) ∧
      (t.out.idleRedraw = false → t.phase = s.phase ∧ t.tIdle = s.tIdle ∧ t.vIdle = s.vIdle)

/-- With no event, the mode only moves down the priority order: over any run of TICKs and HOLDs after a tick, none of
which carries a volume event or a toggle, the mode's rank does not rise (R96). -/
def Obligations.ModeOnlyMovesDownWithoutEvents : Prop :=
  ∀ (s s₁ s₂ : State) (p : Pins) (xs : List Sample), (∀ x ∈ xs, x.noReset = true) →
    applyOp (tickAt p) s = .next s₁ → runOps xs s₁ = .next s₂ → (∀ o ∈ observe xs s₁, o.quiet = true) →
    modeRank s₂.out.mode ≤ modeRank s₁.out.mode

/-- Skipped ticks: a tick without an event shows the same MODE whether or not ticks without events came before it
(R97). -/
def Obligations.SkippedTicksShowTheSameMode : Prop :=
  ∀ (xs : List Sample) (s s' t t' : State) (p q : Pins), (∀ x ∈ xs, x.noReset = true) →
    runOps xs s = .next s' → (∀ o ∈ observe xs s, o.quiet = true) →
    applyOp (tickAt p) s = .next t → t.out.quiet = true →
    applyOp (tickAt q) s' = .next t' → t'.out.quiet = true → p.now = q.now →
    t'.out.mode = t.out.mode

/-- Successive idle redraws, with no RESET between them, are at least IDLE_CADENCE apart, and the later one presents the
phase exactly one HUE_STEP further modulo 360, however long the gap (R98 (a), (b), (c)). -/
def Obligations.SuccessiveIdleRedrawsAreSpacedAndPhased : Prop :=
  ∀ (s s₁ s₂ s₃ : State) (p q : Pins) (xs : List Sample), (∀ x ∈ xs, x.noReset = true) →
    applyOp (tickAt p) s = .next s₁ → s₁.out.idleRedraw = true →
    runOps xs s₁ = .next s₂ → (∀ o ∈ observe xs s₁, o.idleRedraw = false) →
    applyOp (tickAt q) s₂ = .next s₃ → s₃.out.idleRedraw = true →
    s.cfg.idleCadence ≤ q.now - p.now ∧
    s₃.out.phaseOut.toNat = (s₁.out.phaseOut.toNat + s.cfg.hueStep) % 360

/-- On re-entry to Idle the first idle tick redraws at once, whenever both windows are at least the cadence; the premise
IdleApart is an invariant of TICK, RESET and HOLD, stated next (R98 (d)). -/
def Obligations.FirstIdleTickAfterWindowRedraws : Prop :=
  ∀ (s s₁ s₂ : State) (p q : Pins), s.Inv → s.IdleApart →
    s.cfg.idleCadence ≤ min s.cfg.volWin s.cfg.ppWin →
    applyOp (tickAt p) s = .next s₁ → s₁.out.mode ≠ Mode.idle.code →
    applyOp (tickAt q) s₁ = .next s₂ → s₂.out.mode = Mode.idle.code →
    s₂.out.idleRedraw = true

/-- TICK, RESET and HOLD keep the last idle redraw out of the windows; the reset state meets it. -/
def Obligations.IdleRedrawsStayOutOfWindows : Prop :=
  State.reset.IdleApart ∧
  ∀ (s t : State) (x : Sample), s.Inv → s.IdleApart → x.isCtrl = true → applyOp x s = .next t → t.IdleApart

/-- ARB drives no Volume or PlayPause redraw of its own: a tick with no volume event and no toggle asserts neither, and
in Volume or PlayPause mode no idle redraw either (R99). -/
def Obligations.WindowsOnlySuppressIdleRedraw : Prop :=
  ∀ s : State, s.canTick = true →
    ∃ t : State, exec .tick s = .next t ∧
      (t.out.volRedraw = true → t.tVol = s.pins.now ∧ t.vVol = true ∧ t.out.dir ≠ 0b00#2) ∧
      (t.out.ppRedraw = true → t.tTog = s.pins.now ∧ t.vTog = true ∧ t.out.cmdPpToggle = true) ∧
      (t.out.mode ≠ 0b00#2 → t.out.idleRedraw = false)

/-! ### The event stage -/

/-- The volume part of every TICK: VOL and its port move by VOL_STEP times the direction, clamped to 0..100, and the
volume timestamp records every step that is not null, and null ones when VOL_TS_ON_CLAMP says so; a null step occurs only at
100 with +1, or at 0 with -1 (R100, R101). -/
def Obligations.TickAppliesClampedVolumeStep : Prop :=
  ∀ s : State, s.canTick = true →
    ∃ t : State, exec .tick s = .next t ∧
      let d := dirValue t.out.dir
      (d ≠ 0 → (t.vol.toNat : Int) = max 0 (min 100 (s.vol.toNat + s.cfg.volStep * d))) ∧
      (d = 0 → t.vol = s.vol) ∧ t.out.vol = t.vol ∧
      let null := decide (d ≠ 0) && t.vol == s.vol
      let volEvt := decide (d ≠ 0) && (!null || s.cfg.volTsOnClamp)
      t.tVol = (if volEvt then s.pins.now else s.tVol) ∧ t.vVol = (if volEvt then true else s.vVol) ∧
      (s.vol.toNat ≤ 100 → null = true → (s.vol = 100#7 ∧ d = 1) ∨ (s.vol = 0#7 ∧ d = -1))

/-- The play part: every TICK inverts PLAY and its port exactly on a toggle, and after n toggles since RESET PLAY is
PLAY_RESET xor (n mod 2) (R102). -/
def Obligations.PlayInvertsOnEachToggle : Prop :=
  (∀ s : State, s.canTick = true →
    ∃ t : State, exec .tick s = .next t ∧ t.play = (if t.toggle then !s.play else s.play) ∧ t.out.play = t.play) ∧
  (∀ (xs : List Sample) (s r t : State) (p : Pins), (∀ x ∈ xs, x.noReset = true) →
    applyOp (resetAt p) s = .next r → runOps xs r = .next t →
    t.play = (s.cfg.playReset ^^ decide (toggles (observe xs r) % 2 = 1)))

/-- The host-command strobes of every TICK: a step that is not null, or any step under CMD_ON_CLAMP, issues the command of
its sign; a toggle issues PlayPauseToggle; the two volume commands never come together (R103). -/
def Obligations.TickIssuesHostCommands : Prop :=
  ∀ s : State, s.canTick = true →
    ∃ t : State, exec .tick s = .next t ∧
      let d := dirValue t.out.dir
      let cmdOk := !(decide (d ≠ 0) && t.vol == s.vol) || s.cfg.cmdOnClamp
      t.out.cmdVolInc = (decide (d = 1) && cmdOk) ∧ t.out.cmdVolDec = (decide (d = -1) && cmdOk) ∧
      t.out.cmdPpToggle = t.toggle ∧ (t.out.cmdVolInc && t.out.cmdVolDec) = false

/-- The redraw strobes of every TICK: VOL_REDRAW on a volume event, PP_REDRAW on a toggle, and never IDLE_REDRAW beside
either (R104). -/
def Obligations.TickIssuesRedrawStrobes : Prop :=
  ∀ s : State, s.canTick = true →
    ∃ t : State, exec .tick s = .next t ∧
      let d := dirValue t.out.dir
      t.out.volRedraw = (decide (d ≠ 0) && (!(t.vol == s.vol) || s.cfg.volTsOnClamp)) ∧
      t.out.ppRedraw = t.toggle ∧
      (t.out.volRedraw = true ∨ t.out.ppRedraw = true → t.out.idleRedraw = false)

/-- The order in which a host acts on the strobes of a tick: the asserted ones, each once, in R105's order. -/
def Obligations.StrobesComeInHostOrder : Prop :=
  ∀ o : Outputs,
    o.strobes.Sublist [.cmdVolInc, .cmdVolDec, .volRedraw, .cmdPpToggle, .ppRedraw, .idleRedraw] ∧
    (.cmdVolInc ∈ o.strobes ↔ o.cmdVolInc = true) ∧ (.cmdVolDec ∈ o.strobes ↔ o.cmdVolDec = true) ∧
    (.volRedraw ∈ o.strobes ↔ o.volRedraw = true) ∧ (.cmdPpToggle ∈ o.strobes ↔ o.cmdPpToggle = true) ∧
    (.ppRedraw ∈ o.strobes ↔ o.ppRedraw = true) ∧ (.idleRedraw ∈ o.strobes ↔ o.idleRedraw = true)

/-- The clamp is not invertible: a +1 step at 100 and a -1 step after it leave 100 less VOL_STEP, and the other way round
at 0; with CMD_ON_CLAMP the host receives both commands (R107). -/
def Obligations.ClampIsNotInvertible : Prop :=
  ∀ (s s₁ s₂ : State) (p q : Pins), applyOp (tickAt p) s = .next s₁ → applyOp (tickAt q) s₁ = .next s₂ →
    (s.vol = 100#7 → s₁.out.dir = 0b01#2 → s₂.out.dir = 0b11#2 → s₂.vol.toNat = 100 - s.cfg.volStep ∧
      (s.cfg.cmdOnClamp = true → s₁.out.cmdVolInc = true ∧ s₂.out.cmdVolDec = true)) ∧
    (s.vol = 0#7 → s₁.out.dir = 0b11#2 → s₂.out.dir = 0b01#2 → s₂.vol.toNat = s.cfg.volStep ∧
      (s.cfg.cmdOnClamp = true → s₁.out.cmdVolDec = true ∧ s₂.out.cmdVolInc = true))

/-- After every operation of a run since RESET: VOL is in 0..100, V_VOL is 1 exactly when some tick since had a volume
event, V_TOG exactly when some tick had a toggle (R106). -/
def Obligations.ValidBitsRecordEventsSinceReset : Prop :=
  ∀ (xs : List Sample) (s r t : State) (p : Pins), (∀ x ∈ xs, x.noReset = true) →
    applyOp (resetAt p) s = .next r → runOps xs r = .next t →
    t.vol.toNat ≤ 100 ∧
    (t.vVol = true ↔ ∃ o ∈ observe xs r, o.volRedraw = true) ∧
    (t.vTog = true ↔ ∃ o ∈ observe xs r, o.cmdPpToggle = true)

/-! ### Invariants and whole-machine rules -/

/-- Every step keeps the invariant: legal configuration, no reserved code, VOL and PHASE in range, every valid timestamp
at or before LAST_NOW, the ports equal to their registers, at most one volume command. -/
def Obligations.EveryStepKeepsTheInvariant : Prop :=
  ∀ s t : State, s.Inv → step s = .next t → t.Inv

/-- The reset state meets the invariant. -/
def Obligations.ResetStateMeetsTheInvariant : Prop := State.reset.Inv

/-- No step changes the configuration (R28). -/
def Obligations.ConfigurationNeverChanges : Prop :=
  ∀ s t : State, step s = .next t → t.cfg = s.cfg

/-- Determinism: the eleven state elements and every output after a TICK are a function of the state elements, the
configuration and the inputs; the outputs before it, the ghost, the queue and the model's own fields do not matter
(R112). -/
def Obligations.TickIsAFunctionOfStateAndInputs : Prop :=
  ∀ s₁ s₂ : State, s₁.canTick = true → s₂.canTick = true →
    s₁.cfg = s₂.cfg → s₁.pins = s₂.pins → s₁.prev = s₂.prev → s₁.lastLvl = s₂.lastLvl →
    s₁.vTog = s₂.vTog → (s₁.vTog = true → s₁.tTog = s₂.tTog) →
    s₁.vVol = s₂.vVol → (s₁.vVol = true → s₁.tVol = s₂.tVol) →
    s₁.vIdle = s₂.vIdle → (s₁.vIdle = true → s₁.tIdle = s₂.tIdle) →
    s₁.phase = s₂.phase → s₁.vol = s₂.vol → s₁.play = s₂.play →
    ∃ t₁ t₂ : State, exec .tick s₁ = .next t₁ ∧ exec .tick s₂ = .next t₂ ∧ t₁.out = t₂.out ∧
      t₁.prev = t₂.prev ∧ t₁.lastLvl = t₂.lastLvl ∧ t₁.vTog = t₂.vTog ∧ (t₁.vTog = true → t₁.tTog = t₂.tTog) ∧
      t₁.vVol = t₂.vVol ∧ (t₁.vVol = true → t₁.tVol = t₂.tVol) ∧
      t₁.vIdle = t₂.vIdle ∧ (t₁.vIdle = true → t₁.tIdle = t₂.tIdle) ∧
      t₁.phase = t₂.phase ∧ t₁.vol = t₂.vol ∧ t₁.play = t₂.play

/-- The first TICK after RESET with the pins at rest and the switch released, at the reset values 0b11 and 1: no step, no
toggle, Idle, and an idle redraw at once at PHASE_RESET, after which PHASE is one HUE_STEP further (R130). -/
def Obligations.FirstTickAtRestRedrawsIdle : Prop :=
  ∀ (s r : State) (p : Pins) (now : Nat), applyOp (resetAt p) s = .next r →
    s.cfg.qdecPrevReset = 0b11#2 → s.cfg.swLevelReset = true →
    ∃ t : State, applyOp (tickAt ⟨true, true, true, now⟩) r = .next t ∧
      t.out.dir = 0b00#2 ∧ t.out.cmdPpToggle = false ∧ t.out.mode = 0b00#2 ∧ t.out.idleRedraw = true ∧
      t.out.phaseOut.toNat = s.cfg.phaseReset ∧ t.phase.toNat = (s.cfg.phaseReset + s.cfg.hueStep) % 360

/-- The first TICK after RESET measures the pins against QDEC_PREV_RESET and the switch against SW_LEVEL_RESET: a pair
that differs from it in one line is a step, in two lines none, and a switch held pressed toggles (R138). -/
def Obligations.FirstTickMeasuresAgainstResetValues : Prop :=
  ∀ (s r : State) (p q : Pins), applyOp (resetAt p) s = .next r →
    ∃ t : State, applyOp (tickAt q) r = .next t ∧
      (q.cur ^^^ s.cfg.qdecPrevReset = 0b01#2 ∨ q.cur ^^^ s.cfg.qdecPrevReset = 0b10#2 → t.out.dir ≠ 0b00#2) ∧
      (q.cur ^^^ s.cfg.qdecPrevReset = 0b11#2 → t.out.dir = 0b00#2) ∧
      (s.cfg.swLevelReset = true → q.sw = false → t.out.cmdPpToggle = true)

/-- Ticks that carry the same NOW, any number of them: a later one is never a second toggle, the window of an event at that
NOW stays open, and the idle generator does not redraw twice (R111). -/
def Obligations.EqualTimesAreElapsedZero : Prop :=
  ∀ (s s₁ s₂ s₃ : State) (p q : Pins) (ps : List Pins), (∀ r ∈ ps, r.now = p.now) → q.now = p.now →
    applyOp (tickAt p) s = .next s₁ → runOps (ps.map tickAt) s₁ = .next s₂ → applyOp (tickAt q) s₂ = .next s₃ →
    (s₁.out.cmdPpToggle = true → s₃.out.cmdPpToggle = false) ∧
    (s₁.out.volRedraw = true → s₃.out.mode = Mode.volume.code) ∧
    (s₁.out.ppRedraw = true → s₃.out.mode ≠ Mode.idle.code) ∧
    (s₁.out.idleRedraw = true → s₃.out.idleRedraw = false)

/-- A realisation with w-bit times agrees with the model exactly as long as the elapsed value is below 2^w (R139). -/
def Obligations.FiniteWidthTimeAgreesBelowItsRange : Prop :=
  ∀ w now t : Nat, t ≤ now → (elapsedRealised w now t = elapsed now t ↔ elapsed now t < 2 ^ w)
end

