-- ==== Sys2Proof/Laws/State.lean ====
section
/-! SUPPORT. What each unit's write leaves in each field of the state, so that no proof unfolds a record update. -/

namespace Sys2Proof.Machine

/-! ### qdecWrite -/

@[simp] theorem qdecWrite_cfg (c u : BitVec 2) (s : State) : (qdecWrite c u s).cfg = s.cfg := rfl
@[simp] theorem qdecWrite_prev (c u : BitVec 2) (s : State) : (qdecWrite c u s).prev = u := rfl
@[simp] theorem qdecWrite_lastLvl (c u : BitVec 2) (s : State) : (qdecWrite c u s).lastLvl = s.lastLvl := rfl
@[simp] theorem qdecWrite_vTog (c u : BitVec 2) (s : State) : (qdecWrite c u s).vTog = s.vTog := rfl
@[simp] theorem qdecWrite_tTog (c u : BitVec 2) (s : State) : (qdecWrite c u s).tTog = s.tTog := rfl
@[simp] theorem qdecWrite_vVol (c u : BitVec 2) (s : State) : (qdecWrite c u s).vVol = s.vVol := rfl
@[simp] theorem qdecWrite_tVol (c u : BitVec 2) (s : State) : (qdecWrite c u s).tVol = s.tVol := rfl
@[simp] theorem qdecWrite_vIdle (c u : BitVec 2) (s : State) : (qdecWrite c u s).vIdle = s.vIdle := rfl
@[simp] theorem qdecWrite_tIdle (c u : BitVec 2) (s : State) : (qdecWrite c u s).tIdle = s.tIdle := rfl
@[simp] theorem qdecWrite_phase (c u : BitVec 2) (s : State) : (qdecWrite c u s).phase = s.phase := rfl
@[simp] theorem qdecWrite_vol (c u : BitVec 2) (s : State) : (qdecWrite c u s).vol = s.vol := rfl
@[simp] theorem qdecWrite_play (c u : BitVec 2) (s : State) : (qdecWrite c u s).play = s.play := rfl
@[simp] theorem qdecWrite_lastNow (c u : BitVec 2) (s : State) : (qdecWrite c u s).lastNow = s.lastNow := rfl
@[simp] theorem qdecWrite_pins (c u : BitVec 2) (s : State) : (qdecWrite c u s).pins = s.pins := rfl
@[simp] theorem qdecWrite_queue (c u : BitVec 2) (s : State) : (qdecWrite c u s).queue = s.queue := rfl
@[simp] theorem qdecWrite_toggle (c u : BitVec 2) (s : State) : (qdecWrite c u s).toggle = s.toggle := rfl
@[simp] theorem qdecWrite_draws (c u : BitVec 2) (s : State) : (qdecWrite c u s).draws = s.draws := rfl
@[simp] theorem qdecWrite_out_dir (c u : BitVec 2) (s : State) : (qdecWrite c u s).out.dir = c := rfl
@[simp] theorem qdecWrite_out_cmdVolInc (c u : BitVec 2) (s : State) : (qdecWrite c u s).out.cmdVolInc = s.out.cmdVolInc := rfl
@[simp] theorem qdecWrite_out_cmdVolDec (c u : BitVec 2) (s : State) : (qdecWrite c u s).out.cmdVolDec = s.out.cmdVolDec := rfl
@[simp] theorem qdecWrite_out_cmdPpToggle (c u : BitVec 2) (s : State) : (qdecWrite c u s).out.cmdPpToggle = s.out.cmdPpToggle := rfl
@[simp] theorem qdecWrite_out_volRedraw (c u : BitVec 2) (s : State) : (qdecWrite c u s).out.volRedraw = s.out.volRedraw := rfl
@[simp] theorem qdecWrite_out_ppRedraw (c u : BitVec 2) (s : State) : (qdecWrite c u s).out.ppRedraw = s.out.ppRedraw := rfl
@[simp] theorem qdecWrite_out_idleRedraw (c u : BitVec 2) (s : State) : (qdecWrite c u s).out.idleRedraw = s.out.idleRedraw := rfl
@[simp] theorem qdecWrite_out_phaseOut (c u : BitVec 2) (s : State) : (qdecWrite c u s).out.phaseOut = s.out.phaseOut := rfl
@[simp] theorem qdecWrite_out_mode (c u : BitVec 2) (s : State) : (qdecWrite c u s).out.mode = s.out.mode := rfl
@[simp] theorem qdecWrite_out_vol (c u : BitVec 2) (s : State) : (qdecWrite c u s).out.vol = s.out.vol := rfl
@[simp] theorem qdecWrite_out_play (c u : BitVec 2) (s : State) : (qdecWrite c u s).out.play = s.out.play := rfl

/-! ### swdetWrite -/

@[simp] theorem swdetWrite_cfg (t l : Bool) (s : State) : (swdetWrite t l s).cfg = s.cfg := rfl
@[simp] theorem swdetWrite_prev (t l : Bool) (s : State) : (swdetWrite t l s).prev = s.prev := rfl
@[simp] theorem swdetWrite_lastLvl (t l : Bool) (s : State) : (swdetWrite t l s).lastLvl = l := rfl
@[simp] theorem swdetWrite_vTog (t l : Bool) (s : State) : (swdetWrite t l s).vTog = (t || s.vTog) := rfl
@[simp] theorem swdetWrite_tTog (t l : Bool) (s : State) : (swdetWrite t l s).tTog = if t then s.pins.now else s.tTog := rfl
@[simp] theorem swdetWrite_vVol (t l : Bool) (s : State) : (swdetWrite t l s).vVol = s.vVol := rfl
@[simp] theorem swdetWrite_tVol (t l : Bool) (s : State) : (swdetWrite t l s).tVol = s.tVol := rfl
@[simp] theorem swdetWrite_vIdle (t l : Bool) (s : State) : (swdetWrite t l s).vIdle = s.vIdle := rfl
@[simp] theorem swdetWrite_tIdle (t l : Bool) (s : State) : (swdetWrite t l s).tIdle = s.tIdle := rfl
@[simp] theorem swdetWrite_phase (t l : Bool) (s : State) : (swdetWrite t l s).phase = s.phase := rfl
@[simp] theorem swdetWrite_vol (t l : Bool) (s : State) : (swdetWrite t l s).vol = s.vol := rfl
@[simp] theorem swdetWrite_play (t l : Bool) (s : State) : (swdetWrite t l s).play = s.play := rfl
@[simp] theorem swdetWrite_lastNow (t l : Bool) (s : State) : (swdetWrite t l s).lastNow = s.lastNow := rfl
@[simp] theorem swdetWrite_pins (t l : Bool) (s : State) : (swdetWrite t l s).pins = s.pins := rfl
@[simp] theorem swdetWrite_queue (t l : Bool) (s : State) : (swdetWrite t l s).queue = s.queue := rfl
@[simp] theorem swdetWrite_toggle (t l : Bool) (s : State) : (swdetWrite t l s).toggle = t := rfl
@[simp] theorem swdetWrite_draws (t l : Bool) (s : State) : (swdetWrite t l s).draws = s.draws := rfl
@[simp] theorem swdetWrite_out (t l : Bool) (s : State) : (swdetWrite t l s).out = s.out := rfl

/-! ### volumePart -/

@[simp] theorem volumePart_cfg (s : State) : (volumePart s).cfg = s.cfg := rfl
@[simp] theorem volumePart_prev (s : State) : (volumePart s).prev = s.prev := rfl
@[simp] theorem volumePart_lastLvl (s : State) : (volumePart s).lastLvl = s.lastLvl := rfl
@[simp] theorem volumePart_vTog (s : State) : (volumePart s).vTog = s.vTog := rfl
@[simp] theorem volumePart_tTog (s : State) : (volumePart s).tTog = s.tTog := rfl
@[simp] theorem volumePart_vVol (s : State) : (volumePart s).vVol = (s.volEvent (dirValue s.out.dir) || s.vVol) := rfl
@[simp] theorem volumePart_tVol (s : State) : (volumePart s).tVol = if s.volEvent (dirValue s.out.dir) then s.pins.now else s.tVol := rfl
@[simp] theorem volumePart_vIdle (s : State) : (volumePart s).vIdle = s.vIdle := rfl
@[simp] theorem volumePart_tIdle (s : State) : (volumePart s).tIdle = s.tIdle := rfl
@[simp] theorem volumePart_phase (s : State) : (volumePart s).phase = s.phase := rfl
@[simp] theorem volumePart_vol (s : State) : (volumePart s).vol = s.volNext (dirValue s.out.dir) := rfl
@[simp] theorem volumePart_play (s : State) : (volumePart s).play = s.play := rfl
@[simp] theorem volumePart_lastNow (s : State) : (volumePart s).lastNow = s.lastNow := rfl
@[simp] theorem volumePart_pins (s : State) : (volumePart s).pins = s.pins := rfl
@[simp] theorem volumePart_queue (s : State) : (volumePart s).queue = s.queue := rfl
@[simp] theorem volumePart_toggle (s : State) : (volumePart s).toggle = s.toggle := rfl
@[simp] theorem volumePart_draws (s : State) : (volumePart s).draws = s.draws := rfl
@[simp] theorem volumePart_out_dir (s : State) : (volumePart s).out.dir = s.out.dir := rfl
@[simp] theorem volumePart_out_cmdVolInc (s : State) : (volumePart s).out.cmdVolInc = (decide (dirValue s.out.dir = 1) && s.cmdOk (dirValue s.out.dir)) := rfl
@[simp] theorem volumePart_out_cmdVolDec (s : State) : (volumePart s).out.cmdVolDec = (decide (dirValue s.out.dir = -1) && s.cmdOk (dirValue s.out.dir)) := rfl
@[simp] theorem volumePart_out_cmdPpToggle (s : State) : (volumePart s).out.cmdPpToggle = s.out.cmdPpToggle := rfl
@[simp] theorem volumePart_out_volRedraw (s : State) : (volumePart s).out.volRedraw = s.volEvent (dirValue s.out.dir) := rfl
@[simp] theorem volumePart_out_ppRedraw (s : State) : (volumePart s).out.ppRedraw = s.out.ppRedraw := rfl
@[simp] theorem volumePart_out_idleRedraw (s : State) : (volumePart s).out.idleRedraw = s.out.idleRedraw := rfl
@[simp] theorem volumePart_out_phaseOut (s : State) : (volumePart s).out.phaseOut = s.out.phaseOut := rfl
@[simp] theorem volumePart_out_mode (s : State) : (volumePart s).out.mode = s.out.mode := rfl
@[simp] theorem volumePart_out_vol (s : State) : (volumePart s).out.vol = s.volNext (dirValue s.out.dir) := rfl
@[simp] theorem volumePart_out_play (s : State) : (volumePart s).out.play = s.out.play := rfl

/-! ### playPart -/

@[simp] theorem playPart_cfg (s : State) : (playPart s).cfg = s.cfg := rfl
@[simp] theorem playPart_prev (s : State) : (playPart s).prev = s.prev := rfl
@[simp] theorem playPart_lastLvl (s : State) : (playPart s).lastLvl = s.lastLvl := rfl
@[simp] theorem playPart_vTog (s : State) : (playPart s).vTog = s.vTog := rfl
@[simp] theorem playPart_tTog (s : State) : (playPart s).tTog = s.tTog := rfl
@[simp] theorem playPart_vVol (s : State) : (playPart s).vVol = s.vVol := rfl
@[simp] theorem playPart_tVol (s : State) : (playPart s).tVol = s.tVol := rfl
@[simp] theorem playPart_vIdle (s : State) : (playPart s).vIdle = s.vIdle := rfl
@[simp] theorem playPart_tIdle (s : State) : (playPart s).tIdle = s.tIdle := rfl
@[simp] theorem playPart_phase (s : State) : (playPart s).phase = s.phase := rfl
@[simp] theorem playPart_vol (s : State) : (playPart s).vol = s.vol := rfl
@[simp] theorem playPart_play (s : State) : (playPart s).play = (s.toggle ^^ s.play) := rfl
@[simp] theorem playPart_lastNow (s : State) : (playPart s).lastNow = s.lastNow := rfl
@[simp] theorem playPart_pins (s : State) : (playPart s).pins = s.pins := rfl
@[simp] theorem playPart_queue (s : State) : (playPart s).queue = s.queue := rfl
@[simp] theorem playPart_toggle (s : State) : (playPart s).toggle = s.toggle := rfl
@[simp] theorem playPart_draws (s : State) : (playPart s).draws = s.draws := rfl
@[simp] theorem playPart_out_dir (s : State) : (playPart s).out.dir = s.out.dir := rfl
@[simp] theorem playPart_out_cmdVolInc (s : State) : (playPart s).out.cmdVolInc = s.out.cmdVolInc := rfl
@[simp] theorem playPart_out_cmdVolDec (s : State) : (playPart s).out.cmdVolDec = s.out.cmdVolDec := rfl
@[simp] theorem playPart_out_cmdPpToggle (s : State) : (playPart s).out.cmdPpToggle = s.toggle := rfl
@[simp] theorem playPart_out_volRedraw (s : State) : (playPart s).out.volRedraw = s.out.volRedraw := rfl
@[simp] theorem playPart_out_ppRedraw (s : State) : (playPart s).out.ppRedraw = s.toggle := rfl
@[simp] theorem playPart_out_idleRedraw (s : State) : (playPart s).out.idleRedraw = s.out.idleRedraw := rfl
@[simp] theorem playPart_out_phaseOut (s : State) : (playPart s).out.phaseOut = s.out.phaseOut := rfl
@[simp] theorem playPart_out_mode (s : State) : (playPart s).out.mode = s.out.mode := rfl
@[simp] theorem playPart_out_vol (s : State) : (playPart s).out.vol = s.out.vol := rfl
@[simp] theorem playPart_out_play (s : State) : (playPart s).out.play = (s.toggle ^^ s.play) := rfl

/-! ### arbWrite -/

@[simp] theorem arbWrite_cfg (m : Mode) (s : State) : (arbWrite m s).cfg = s.cfg := rfl
@[simp] theorem arbWrite_prev (m : Mode) (s : State) : (arbWrite m s).prev = s.prev := rfl
@[simp] theorem arbWrite_lastLvl (m : Mode) (s : State) : (arbWrite m s).lastLvl = s.lastLvl := rfl
@[simp] theorem arbWrite_vTog (m : Mode) (s : State) : (arbWrite m s).vTog = s.vTog := rfl
@[simp] theorem arbWrite_tTog (m : Mode) (s : State) : (arbWrite m s).tTog = s.tTog := rfl
@[simp] theorem arbWrite_vVol (m : Mode) (s : State) : (arbWrite m s).vVol = s.vVol := rfl
@[simp] theorem arbWrite_tVol (m : Mode) (s : State) : (arbWrite m s).tVol = s.tVol := rfl
@[simp] theorem arbWrite_vIdle (m : Mode) (s : State) : (arbWrite m s).vIdle = (m == .idle && s.idleDue || s.vIdle) := rfl
@[simp] theorem arbWrite_tIdle (m : Mode) (s : State) : (arbWrite m s).tIdle = if m == .idle && s.idleDue then s.pins.now else s.tIdle := rfl
@[simp] theorem arbWrite_phase (m : Mode) (s : State) : (arbWrite m s).phase = if m == .idle && s.idleDue then s.nextPhase else s.phase := rfl
@[simp] theorem arbWrite_vol (m : Mode) (s : State) : (arbWrite m s).vol = s.vol := rfl
@[simp] theorem arbWrite_play (m : Mode) (s : State) : (arbWrite m s).play = s.play := rfl
@[simp] theorem arbWrite_lastNow (m : Mode) (s : State) : (arbWrite m s).lastNow = s.lastNow := rfl
@[simp] theorem arbWrite_pins (m : Mode) (s : State) : (arbWrite m s).pins = s.pins := rfl
@[simp] theorem arbWrite_queue (m : Mode) (s : State) : (arbWrite m s).queue = s.queue := rfl
@[simp] theorem arbWrite_toggle (m : Mode) (s : State) : (arbWrite m s).toggle = s.toggle := rfl
@[simp] theorem arbWrite_draws (m : Mode) (s : State) : (arbWrite m s).draws = s.draws := rfl
@[simp] theorem arbWrite_out_dir (m : Mode) (s : State) : (arbWrite m s).out.dir = s.out.dir := rfl
@[simp] theorem arbWrite_out_cmdVolInc (m : Mode) (s : State) : (arbWrite m s).out.cmdVolInc = s.out.cmdVolInc := rfl
@[simp] theorem arbWrite_out_cmdVolDec (m : Mode) (s : State) : (arbWrite m s).out.cmdVolDec = s.out.cmdVolDec := rfl
@[simp] theorem arbWrite_out_cmdPpToggle (m : Mode) (s : State) : (arbWrite m s).out.cmdPpToggle = s.out.cmdPpToggle := rfl
@[simp] theorem arbWrite_out_volRedraw (m : Mode) (s : State) : (arbWrite m s).out.volRedraw = s.out.volRedraw := rfl
@[simp] theorem arbWrite_out_ppRedraw (m : Mode) (s : State) : (arbWrite m s).out.ppRedraw = s.out.ppRedraw := rfl
@[simp] theorem arbWrite_out_idleRedraw (m : Mode) (s : State) : (arbWrite m s).out.idleRedraw = (m == .idle && s.idleDue) := rfl
@[simp] theorem arbWrite_out_phaseOut (m : Mode) (s : State) : (arbWrite m s).out.phaseOut = s.phase := rfl
@[simp] theorem arbWrite_out_mode (m : Mode) (s : State) : (arbWrite m s).out.mode = m.code := rfl
@[simp] theorem arbWrite_out_vol (m : Mode) (s : State) : (arbWrite m s).out.vol = s.out.vol := rfl
@[simp] theorem arbWrite_out_play (m : Mode) (s : State) : (arbWrite m s).out.play = s.out.play := rfl

/-! ### resetWrite -/

@[simp] theorem resetWrite_cfg (s : State) : (resetWrite s).cfg = s.cfg := rfl
@[simp] theorem resetWrite_prev (s : State) : (resetWrite s).prev = s.cfg.qdecPrevReset := rfl
@[simp] theorem resetWrite_lastLvl (s : State) : (resetWrite s).lastLvl = s.cfg.swLevelReset := rfl
@[simp] theorem resetWrite_vTog (s : State) : (resetWrite s).vTog = false := rfl
@[simp] theorem resetWrite_vVol (s : State) : (resetWrite s).vVol = false := rfl
@[simp] theorem resetWrite_vIdle (s : State) : (resetWrite s).vIdle = false := rfl
@[simp] theorem resetWrite_phase (s : State) : (resetWrite s).phase = BitVec.ofNat 9 s.cfg.phaseReset := rfl
@[simp] theorem resetWrite_vol (s : State) : (resetWrite s).vol = BitVec.ofNat 7 s.cfg.volReset := rfl
@[simp] theorem resetWrite_play (s : State) : (resetWrite s).play = s.cfg.playReset := rfl
@[simp] theorem resetWrite_lastNow (s : State) : (resetWrite s).lastNow = 0 := rfl
@[simp] theorem resetWrite_pins (s : State) : (resetWrite s).pins = s.pins := rfl
@[simp] theorem resetWrite_queue (s : State) : (resetWrite s).queue = s.queue := rfl
@[simp] theorem resetWrite_toggle (s : State) : (resetWrite s).toggle = false := rfl
@[simp] theorem resetWrite_draws (s : State) : (resetWrite s).draws = s.draws + 3 := rfl
@[simp] theorem resetWrite_out (s : State) : (resetWrite s).out = Outputs.reset s.cfg := rfl

/-! ### The whole tick, in the locals of R108 -/

@[simp] theorem tickWrite_cfg (s : State) : (tickWrite s).cfg = s.cfg := rfl
@[simp] theorem tickWrite_prev (s : State) : (tickWrite s).prev = s.pins.cur := rfl
@[simp] theorem tickWrite_lastLvl (s : State) : (tickWrite s).lastLvl = s.pins.sw := rfl
@[simp] theorem tickWrite_vTog (s : State) : (tickWrite s).vTog = s.tickVTog := rfl
@[simp] theorem tickWrite_tTog (s : State) : (tickWrite s).tTog = s.tickTTog := rfl
@[simp] theorem tickWrite_vVol (s : State) : (tickWrite s).vVol = s.tickVVol := rfl
@[simp] theorem tickWrite_tVol (s : State) : (tickWrite s).tVol = s.tickTVol := rfl
@[simp] theorem tickWrite_vIdle (s : State) : (tickWrite s).vIdle = (s.tickRedraw || s.vIdle) := rfl
@[simp] theorem tickWrite_tIdle (s : State) : (tickWrite s).tIdle = if s.tickRedraw then s.pins.now else s.tIdle := rfl
@[simp] theorem tickWrite_phase (s : State) : (tickWrite s).phase = if s.tickRedraw then s.nextPhase else s.phase := rfl
@[simp] theorem tickWrite_vol (s : State) : (tickWrite s).vol = s.volNext s.tickDir := rfl
@[simp] theorem tickWrite_play (s : State) : (tickWrite s).play = (s.tickToggle ^^ s.play) := rfl
@[simp] theorem tickWrite_lastNow (s : State) : (tickWrite s).lastNow = s.lastNow := rfl
@[simp] theorem tickWrite_pins (s : State) : (tickWrite s).pins = s.pins := rfl
@[simp] theorem tickWrite_queue (s : State) : (tickWrite s).queue = s.queue := rfl
@[simp] theorem tickWrite_toggle (s : State) : (tickWrite s).toggle = s.tickToggle := rfl
@[simp] theorem tickWrite_draws (s : State) : (tickWrite s).draws = s.draws := rfl
@[simp] theorem tickWrite_out_dir (s : State) : (tickWrite s).out.dir = romRead s.cfg.polarity s.key := rfl
@[simp] theorem tickWrite_out_cmdVolInc (s : State) : (tickWrite s).out.cmdVolInc = (decide (s.tickDir = 1) && s.cmdOk s.tickDir) := rfl
@[simp] theorem tickWrite_out_cmdVolDec (s : State) : (tickWrite s).out.cmdVolDec = (decide (s.tickDir = -1) && s.cmdOk s.tickDir) := rfl
@[simp] theorem tickWrite_out_cmdPpToggle (s : State) : (tickWrite s).out.cmdPpToggle = s.tickToggle := rfl
@[simp] theorem tickWrite_out_volRedraw (s : State) : (tickWrite s).out.volRedraw = s.tickVolEvt := rfl
@[simp] theorem tickWrite_out_ppRedraw (s : State) : (tickWrite s).out.ppRedraw = s.tickToggle := rfl
@[simp] theorem tickWrite_out_idleRedraw (s : State) : (tickWrite s).out.idleRedraw = s.tickRedraw := rfl
@[simp] theorem tickWrite_out_phaseOut (s : State) : (tickWrite s).out.phaseOut = s.phase := rfl
@[simp] theorem tickWrite_out_mode (s : State) : (tickWrite s).out.mode = s.tickMode.code := rfl
@[simp] theorem tickWrite_out_vol (s : State) : (tickWrite s).out.vol = s.volNext s.tickDir := rfl
@[simp] theorem tickWrite_out_play (s : State) : (tickWrite s).out.play = (s.tickToggle ^^ s.play) := rfl

end Sys2Proof.Machine
end

