-- ==== Sys2Proof/Laws/Operands.lean ====
section
/-! SUPPORT. Facts about the operand forms: the fields of a key, the ROM's codes, the ranges that the clamp and the
phase modulus give. -/

namespace Sys2Proof

theorem keyPrev_key : ∀ p c : BitVec 2, keyPrev (key p c) = p := by decide
theorem keyCur_key : ∀ p c : BitVec 2, keyCur (key p c) = c := by decide

/-- The ROM holds no reserved code (R49, R52). -/
theorem romRead_ne_reserved (p : Polarity) : ∀ k : BitVec 4, romRead p k ≠ 0b10#2 := by
  cases p <;> decide

/-- What the ROM can give: no step, or a step either way (R49). -/
theorem dirValue_romRead (p : Polarity) :
    ∀ k : BitVec 4, dirValue (romRead p k) = 0 ∨ dirValue (romRead p k) = 1 ∨ dirValue (romRead p k) = -1 := by
  cases p <;> decide

theorem mode_code_ne_reserved (m : Mode) : m.code ≠ 0b11#2 := by cases m <;> decide

/-- The check of TIME_UNIT is that it is a positive duration (R6). -/
theorem Config.timeUnit_pos_iff {c : Config} : 0 < c.timeUnitMs ↔ 0 < c.timeUnitMs.num := by
  rw [Rat.lt_iff]; simp

/-- TIME_UNIT divides exactly the duration of every count of it, each window's among them (R6). -/
theorem Config.duration_div_timeUnit {c : Config} (h : 0 < c.timeUnitMs) (n : Nat) :
    c.duration n / c.timeUnitMs = n := by
  refine Rat.mul_div_cancel fun h0 => ?_
  rw [h0] at h
  exact absurd h (by decide)

theorem clamp_range (v : Int) : 0 ≤ clamp v 0 100 ∧ clamp v 0 100 ≤ 100 := by
  unfold clamp; split
  · omega
  · split <;> omega

namespace Machine

/-- The next level as a number (R100). -/
theorem toNat_volNext (s : State) (d : Int) (hd : d ≠ 0) :
    ((s.volNext d).toNat : Int) = clamp (s.vol.toNat + s.cfg.volStep * d) 0 100 := by
  have h := clamp_range (s.vol.toNat + s.cfg.volStep * d)
  simp only [State.volNext, hd, if_false, Config.volMin, Config.volMax, BitVec.toNat_ofInt]
  omega

theorem volNext_zero (s : State) : s.volNext 0 = s.vol := by simp [State.volNext]

/-- The level stays in range (R22, R106). -/
theorem volNext_le (s : State) (d : Int) (h : s.vol.toNat ≤ 100) : (s.volNext d).toNat ≤ 100 := by
  by_cases hd : d = 0
  · rw [hd, volNext_zero]; exact h
  · have := toNat_volNext s d hd
    have := clamp_range (s.vol.toNat + s.cfg.volStep * d)
    omega

/-- The phase as a number after an idle redraw (R95). -/
theorem toNat_nextPhase (s : State) : s.nextPhase.toNat = (s.phase.toNat + s.cfg.hueStep) % 360 := by
  have : (s.phase.toNat + s.cfg.hueStep) % 360 < 360 := Nat.mod_lt _ (by decide)
  simp only [State.nextPhase, Config.hueMod, BitVec.toNat_ofNat]
  omega

theorem nextPhase_lt (s : State) : s.nextPhase.toNat < 360 := by
  rw [toNat_nextPhase]; exact Nat.mod_lt _ (by decide)

end Machine

end Sys2Proof
end

