-- ==== Sys2Proof/Laws/Ops.lean ====
section
/-! SUPPORT. Everything a guarded operation can answer, and what one instruction can do: the one inversion that proofs
about a next state start from. -/

namespace Sys2Proof.Machine

theorem guarded_of_runnable {s : State} (h : s.runnable = true) (t : State) : guarded s t = .next t := by
  simp only [State.runnable, Bool.and_eq_true, Bool.not_eq_true'] at h
  simp [guarded, h.1, h.2]

/-- A guarded operation answers its state exactly when the state may be run. -/
theorem guarded_eq_next {s t u : State} : guarded s t = .next u ↔ s.runnable = true ∧ t = u := by
  unfold guarded State.runnable
  cases s.cfg.legal <;> cases s.out.reserved <;> simp

theorem guardedAtNow_of_canTick {s : State} (h : s.canTick = true) (t : State) :
    guardedAtNow s t = .next { t with lastNow := s.pins.now } := by
  simp only [State.canTick, Bool.and_eq_true, Bool.not_eq_true'] at h
  simp [guardedAtNow, h.2, guarded_of_runnable h.1]

/-- An operation that reads NOW answers its state, with LAST_NOW at NOW, exactly when it can be run there (R110). -/
theorem guardedAtNow_eq_next {s t u : State} :
    guardedAtNow s t = .next u ↔ s.canTick = true ∧ { t with lastNow := s.pins.now } = u := by
  unfold guardedAtNow
  cases hr : s.runnable <;> cases hb : s.timeBackwards <;> simp [State.canTick, hr, hb, guarded_eq_next]

/-- Every refusal of a guarded operation, in the order of the reasons (assumption 24). -/
theorem guarded_eq_refused {s t : State} {r : Refusal} : guarded s t = .refused r ↔
    (s.cfg.legal = false ∧ r = .illegalConfig) ∨
    (s.cfg.legal = true ∧ s.out.reserved = true ∧ r = .reservedOutputCode) := by
  unfold guarded
  cases s.cfg.legal <;> cases s.out.reserved <;> cases r <;> simp

/-- Every refusal of an operation that reads NOW, in the order of the reasons (assumption 24). -/
theorem guardedAtNow_eq_refused {s t : State} {r : Refusal} : guardedAtNow s t = .refused r ↔
    (s.cfg.legal = false ∧ r = .illegalConfig) ∨
    (s.cfg.legal = true ∧ s.out.reserved = true ∧ r = .reservedOutputCode) ∨
    (s.runnable = true ∧ s.pins.now < s.lastNow ∧ r = .timeBackwards) := by
  have hb : s.timeBackwards = true ↔ s.pins.now < s.lastNow := by simp [State.timeBackwards]
  rw [← hb]
  unfold guardedAtNow guarded State.runnable
  cases s.cfg.legal <;> cases s.out.reserved <;> cases s.timeBackwards <;> cases r <;> simp

theorem timeBackwards_eq_false {s : State} : s.timeBackwards = false ↔ s.lastNow ≤ s.pins.now := by
  simp [State.timeBackwards]

theorem canTick_iff {s : State} : s.canTick = true ↔ s.runnable = true ∧ s.lastNow ≤ s.pins.now := by
  simp [State.canTick, timeBackwards_eq_false]

theorem exec_tick_of_canTick {s : State} (h : s.canTick = true) :
    exec .tick s = .next { tickWrite s with lastNow := s.pins.now } := guardedAtNow_of_canTick h _

/-! The comparators as propositions. -/

theorem gate_eq_true {s : State} : s.gate = true ↔ s.vTog = false ∨ s.cfg.debounce < s.pins.now - s.tTog := by
  simp [State.gate]

theorem volWindow_eq_true {s : State} :
    s.volWindow = true ↔ s.vVol = true ∧ s.pins.now - s.tVol < s.cfg.volWin := by simp [State.volWindow]

theorem ppWindow_eq_true {s : State} :
    s.ppWindow = true ↔ s.vTog = true ∧ s.pins.now - s.tTog < s.cfg.ppWin := by simp [State.ppWindow]

theorem idleDue_eq_true {s : State} :
    s.idleDue = true ↔ s.vIdle = false ∨ s.cfg.idleCadence ≤ s.pins.now - s.tIdle := by simp [State.idleDue]

theorem tickVolWin_eq_true {s : State} :
    s.tickVolWin = true ↔ s.tickVVol = true ∧ s.pins.now - s.tickTVol < s.cfg.volWin := by simp [State.tickVolWin]

theorem tickPpWin_eq_true {s : State} :
    s.tickPpWin = true ↔ s.tickVTog = true ∧ s.pins.now - s.tickTTog < s.cfg.ppWin := by simp [State.tickPpWin]

theorem tickRedraw_eq_true {s : State} :
    s.tickRedraw = true ↔ s.tickVolWin = false ∧ s.tickPpWin = false ∧ s.idleDue = true := by
  simp only [State.tickRedraw, State.tickMode]
  cases s.tickVolWin <;> cases s.tickPpWin <;> simp [muxMode]

/-- The reserved codes of a state's outputs, and of an operation's that leaves legal ones. -/
theorem reserved_eq_false {o : Outputs} : o.reserved = false ↔ o.dir ≠ 0b10#2 ∧ o.mode ≠ 0b11#2 := by
  simp [Outputs.reserved]

/-- Everything an instruction can do when it answers a next state. The state may be run, and one of the unit writes, or
a whole operation of the control space, is what happened. -/
theorem exec_cases {i : Instr} {s t : State} (h : exec i s = .next t) :
    s.runnable = true ∧
    ((∃ b, i = .reset b ∧ t = resetWrite s) ∨
     (i = .tick ∧ s.lastNow ≤ s.pins.now ∧ t = { tickWrite s with lastNow := s.pins.now }) ∨
     (i = .hold ∧ t = { s with out := s.out.hold, toggle := false }) ∨
     (i.space = .qkey ∧ ∃ c u, c ≠ 0b10#2 ∧ t = qdecWrite c u s) ∨
     (i.space = .sedge ∧ ∃ l, t = swdetWrite false l s) ∨
     (i = .edgeFall ∧ s.lastNow ≤ s.pins.now ∧ t = { swdetWrite s.gate false s with lastNow := s.pins.now }) ∨
     (i.space = .awin ∧ ∃ m, m ≠ .idle ∧ t = arbWrite m s) ∨
     (i = .win00 ∧ s.lastNow ≤ s.pins.now ∧ t = { arbWrite .idle s with lastNow := s.pins.now })) := by
  have code : ∀ d : Int, dirCode d ≠ 0b10#2 := by
    intro d; unfold dirCode; split
    · decide
    · split <;> decide
  cases i
  case reset b => obtain ⟨hr, rfl⟩ := guarded_eq_next.1 h; exact ⟨hr, .inl ⟨b, rfl, rfl⟩⟩
  case tick =>
    obtain ⟨hr, rfl⟩ := guardedAtNow_eq_next.1 h
    exact ⟨(canTick_iff.1 hr).1, .inr (.inl ⟨rfl, (canTick_iff.1 hr).2, rfl⟩)⟩
  case hold => obtain ⟨hr, rfl⟩ := guarded_eq_next.1 h; exact ⟨hr, .inr (.inr (.inl ⟨rfl, rfl⟩))⟩
  case edgeFall =>
    obtain ⟨hr, rfl⟩ := guardedAtNow_eq_next.1 h
    exact ⟨(canTick_iff.1 hr).1, .inr (.inr (.inr (.inr (.inr (.inl ⟨rfl, (canTick_iff.1 hr).2, rfl⟩)))))⟩
  case win00 =>
    obtain ⟨hr, rfl⟩ := guardedAtNow_eq_next.1 h
    exact ⟨(canTick_iff.1 hr).1, .inr (.inr (.inr (.inr (.inr (.inr (.inr ⟨rfl, (canTick_iff.1 hr).2, rfl⟩))))))⟩
  case edgeHeld => obtain ⟨hr, rfl⟩ := guarded_eq_next.1 h; exact ⟨hr, .inr (.inr (.inr (.inr (.inl ⟨rfl, _, rfl⟩))))⟩
  case edgeRise => obtain ⟨hr, rfl⟩ := guarded_eq_next.1 h; exact ⟨hr, .inr (.inr (.inr (.inr (.inl ⟨rfl, _, rfl⟩))))⟩
  case edgeIdle => obtain ⟨hr, rfl⟩ := guarded_eq_next.1 h; exact ⟨hr, .inr (.inr (.inr (.inr (.inl ⟨rfl, _, rfl⟩))))⟩
  case win11 =>
    obtain ⟨hr, rfl⟩ := guarded_eq_next.1 h
    exact ⟨hr, .inr (.inr (.inr (.inr (.inr (.inr (.inl ⟨rfl, _, by decide, rfl⟩))))))⟩
  case win10 =>
    obtain ⟨hr, rfl⟩ := guarded_eq_next.1 h
    exact ⟨hr, .inr (.inr (.inr (.inr (.inr (.inr (.inl ⟨rfl, _, by decide, rfl⟩))))))⟩
  case win01 =>
    obtain ⟨hr, rfl⟩ := guarded_eq_next.1 h
    exact ⟨hr, .inr (.inr (.inr (.inr (.inr (.inr (.inl ⟨rfl, _, by decide, rfl⟩))))))⟩
  all_goals
    obtain ⟨hr, rfl⟩ := guarded_eq_next.1 h
    exact ⟨hr, .inr (.inr (.inr (.inl ⟨rfl, _, _, code _, rfl⟩)))⟩

/-- An instruction of a state that may not be run is refused, whichever it is (R126, R128). -/
theorem exec_of_not_runnable {s : State} (h : s.runnable = false) (i : Instr) (t : State) : exec i s ≠ .next t :=
  fun hn => Bool.false_ne_true (h ▸ (exec_cases hn).1)

end Sys2Proof.Machine
end

