-- ==== Sys2Proof/Laws/Entries.lean ====
section
/-! SUPPORT. The entries against the units: what each decoded entry of the three datapath spaces answers, said once a
space, and the ROM by change mask. -/

namespace Sys2Proof

/-- A key whose lines did not change, or both did, gives no step (R44, R45). -/
theorem romRead_of_no_step : ∀ (p : Polarity) (a b : BitVec 2), a ^^^ b = 0b00#2 ∨ a ^^^ b = 0b11#2 →
    romRead p (key a b) = 0b00#2 := by
  intro p; cases p <;> decide

/-- A key of one changed line gives a step (R44, R45). -/
theorem romRead_of_step : ∀ (p : Polarity) (a b : BitVec 2), a ^^^ b = 0b01#2 ∨ a ^^^ b = 0b10#2 →
    romRead p (key a b) = 0b01#2 ∨ romRead p (key a b) = 0b11#2 := by
  intro p; cases p <;> decide

theorem dirValue_zero : dirValue 0b00#2 = 0 := by decide

theorem bitVec2_cases : ∀ p : BitVec 2, p = 0#2 ∨ p = 1#2 ∨ p = 2#2 ∨ p = 3#2 := by decide

namespace Machine

/-- The entry of a key is QDEC's write of the ROM's code at that key. -/
theorem exec_qkey (p c : BitVec 2) (s : State) :
    exec (decode (.qkey (Sys2Proof.key p c))) s
      = guarded s (qdecWrite (romRead s.cfg.polarity (Sys2Proof.key p c)) c s) := by
  cases hp : s.cfg.polarity <;>
    rcases bitVec2_cases p with rfl | rfl | rfl | rfl <;> rcases bitVec2_cases c with rfl | rfl | rfl | rfl <;>
      (simp only [decode, decodeQkey, Sys2Proof.key]
       simp [exec, execKey0, execKey1, execKey2, execKey3, execKey4, execKey5, execKey6, execKey7, execKey8, execKey9,
         execKey10, execKey11, execKey12, execKey13, execKey14, execKey15, qdecEntry, hp]
       rfl)

/-- The entry that the state's edge code selects is the SWDET step; EDGE_FALL moves LAST_NOW too (assumption 10). -/
theorem exec_sedge {s : State} (h : s.canTick = true) :
    exec (decode (.sedge s.edgeCode)) s = .next (swdetStep s) ∨
    exec (decode (.sedge s.edgeCode)) s = .next { swdetStep s with lastNow := s.pins.now } := by
  have hr := (canTick_iff.1 h).1
  unfold swdetStep State.edgeCode
  cases s.lastLvl <;> cases s.pins.sw
  · exact .inl (guarded_of_runnable hr _)
  · exact .inl (guarded_of_runnable hr _)
  · exact .inr (guardedAtNow_of_canTick h _)
  · exact .inl (guarded_of_runnable hr _)

/-- The entry that the state's window vector selects is the ARB step; WIN00 moves LAST_NOW too (assumption 10). -/
theorem exec_awin {s : State} (h : s.canTick = true) :
    exec (decode (.awin s.windowVector)) s = .next (arbStep s) ∨
    exec (decode (.awin s.windowVector)) s = .next { arbStep s with lastNow := s.pins.now } := by
  have hr := (canTick_iff.1 h).1
  unfold arbStep State.windowVector
  cases s.volWindow <;> cases s.ppWindow
  · exact .inr (guardedAtNow_of_canTick h _)
  · exact .inl (guarded_of_runnable hr _)
  · exact .inl (guarded_of_runnable hr _)
  · exact .inl (guarded_of_runnable hr _)

/-- A state that can be run stays so after a tick, whatever levels come next (R128). -/
theorem runnable_tickWrite {s : State} (h : s.runnable = true) (p : Pins) (n : Nat) :
    ({ tickWrite s with lastNow := n, pins := p } : State).runnable = true := by
  simp only [State.runnable, Bool.and_eq_true, Bool.not_eq_true'] at h ⊢
  exact ⟨h.1, reserved_eq_false.2 ⟨romRead_ne_reserved _ _, mode_code_ne_reserved _⟩⟩

end Machine

end Sys2Proof
end

