-- ==== Sys2Proof/Laws/PerInstr.lean ====
section
/-! SUPPORT. Per instruction: the word the encoder gives matches exactly one row of the opcode table, and that row is the
instruction's own. -/

namespace Sys2Proof.Laws.InTable

/-- Exactly one row of the table matches the instruction's word, and it stands for the instruction. -/
def Statement (i : Instr) : Prop :=
  (opcodeRows.filter (·.matchesWord (encode i))).length = 1 ∧
    ∀ r ∈ opcodeRows.filter (·.matchesWord (encode i)), i ∈ r.instrs

theorem reset (t : Bool) : Statement (.reset t) := by cases t <;> unfold Statement <;> decide
theorem tick : Statement .tick := by unfold Statement; decide
theorem hold : Statement .hold := by unfold Statement; decide
theorem key0 : Statement .key0 := by unfold Statement; decide
theorem key1 : Statement .key1 := by unfold Statement; decide
theorem key2 : Statement .key2 := by unfold Statement; decide
theorem key3 : Statement .key3 := by unfold Statement; decide
theorem key4 : Statement .key4 := by unfold Statement; decide
theorem key5 : Statement .key5 := by unfold Statement; decide
theorem key6 : Statement .key6 := by unfold Statement; decide
theorem key7 : Statement .key7 := by unfold Statement; decide
theorem key8 : Statement .key8 := by unfold Statement; decide
theorem key9 : Statement .key9 := by unfold Statement; decide
theorem key10 : Statement .key10 := by unfold Statement; decide
theorem key11 : Statement .key11 := by unfold Statement; decide
theorem key12 : Statement .key12 := by unfold Statement; decide
theorem key13 : Statement .key13 := by unfold Statement; decide
theorem key14 : Statement .key14 := by unfold Statement; decide
theorem key15 : Statement .key15 := by unfold Statement; decide
theorem edgeHeld : Statement .edgeHeld := by unfold Statement; decide
theorem edgeRise : Statement .edgeRise := by unfold Statement; decide
theorem edgeFall : Statement .edgeFall := by unfold Statement; decide
theorem edgeIdle : Statement .edgeIdle := by unfold Statement; decide
theorem win11 : Statement .win11 := by unfold Statement; decide
theorem win10 : Statement .win10 := by unfold Statement; decide
theorem win01 : Statement .win01 := by unfold Statement; decide
theorem win00 : Statement .win00 := by unfold Statement; decide

end Sys2Proof.Laws.InTable
end

