-- ==== Sys2Proof/Laws/Run.lean ====
section
/-! SUPPORT. Runs of operations: what one operation does, and how runs and observations join. -/

namespace Sys2Proof.Machine

/-- The state an operation runs in: nothing pending, its levels on the inputs. -/
def State.atPins (s : State) (p : Pins) : State := { s with queue := [], pins := p }

@[simp] theorem atPins_pins (s : State) (p : Pins) : (s.atPins p).pins = p := rfl
@[simp] theorem atPins_queue (s : State) (p : Pins) : (s.atPins p).queue = [] := rfl
@[simp] theorem atPins_cfg (s : State) (p : Pins) : (s.atPins p).cfg = s.cfg := rfl
@[simp] theorem atPins_prev (s : State) (p : Pins) : (s.atPins p).prev = s.prev := rfl
@[simp] theorem atPins_lastLvl (s : State) (p : Pins) : (s.atPins p).lastLvl = s.lastLvl := rfl
@[simp] theorem atPins_vTog (s : State) (p : Pins) : (s.atPins p).vTog = s.vTog := rfl
@[simp] theorem atPins_tTog (s : State) (p : Pins) : (s.atPins p).tTog = s.tTog := rfl
@[simp] theorem atPins_vVol (s : State) (p : Pins) : (s.atPins p).vVol = s.vVol := rfl
@[simp] theorem atPins_tVol (s : State) (p : Pins) : (s.atPins p).tVol = s.tVol := rfl
@[simp] theorem atPins_vIdle (s : State) (p : Pins) : (s.atPins p).vIdle = s.vIdle := rfl
@[simp] theorem atPins_tIdle (s : State) (p : Pins) : (s.atPins p).tIdle = s.tIdle := rfl
@[simp] theorem atPins_phase (s : State) (p : Pins) : (s.atPins p).phase = s.phase := rfl
@[simp] theorem atPins_vol (s : State) (p : Pins) : (s.atPins p).vol = s.vol := rfl
@[simp] theorem atPins_play (s : State) (p : Pins) : (s.atPins p).play = s.play := rfl
@[simp] theorem atPins_out (s : State) (p : Pins) : (s.atPins p).out = s.out := rfl
@[simp] theorem atPins_lastNow (s : State) (p : Pins) : (s.atPins p).lastNow = s.lastNow := rfl
@[simp] theorem atPins_toggle (s : State) (p : Pins) : (s.atPins p).toggle = s.toggle := rfl
@[simp] theorem atPins_draws (s : State) (p : Pins) : (s.atPins p).draws = s.draws := rfl

/-- One operation is its instruction's meaning at its levels. -/
theorem applyOp_eq (x : Sample) (s : State) : applyOp x s = exec (decode x.word) (s.atPins x.pins) := rfl

theorem applyOp_tickAt (p : Pins) (s : State) : applyOp (tickAt p) s = exec .tick (s.atPins p) := rfl
theorem applyOp_holdAt (p : Pins) (s : State) : applyOp (holdAt p) s = exec .hold (s.atPins p) := rfl
theorem applyOp_resetAt (p : Pins) (s : State) : applyOp (resetAt p) s = exec (.reset false) (s.atPins p) := rfl

@[simp] theorem tickPairs_nil : tickPairs [] = [] := rfl
@[simp] theorem tickPairs_cons_tick (p : Pins) (xs : List Sample) :
    tickPairs (tickAt p :: xs) = p.cur :: tickPairs xs := rfl
@[simp] theorem tickPairs_cons_hold (p : Pins) (xs : List Sample) : tickPairs (holdAt p :: xs) = tickPairs xs := rfl

/-- The sum of the directions splits at the first outputs (R59). -/
@[simp] theorem dirSum_cons (o : Outputs) (os : List Outputs) : dirSum (o :: os) = dirValue o.dir + dirSum os := by
  simp [dirSum]

@[simp] theorem runOps_nil (s : State) : runOps [] s = .next s := rfl
@[simp] theorem observe_nil (s : State) : observe [] s = [] := rfl

/-- A run that ends splits at its first operation. -/
theorem runOps_cons {x : Sample} {xs : List Sample} {s u : State} (h : runOps (x :: xs) s = .next u) :
    ∃ t, applyOp x s = .next t ∧ runOps xs t = .next u ∧ observe (x :: xs) s = t.out :: observe xs t := by
  unfold runOps at h
  cases hx : applyOp x s with
  | next t => rw [hx] at h; exact ⟨t, rfl, h, by simp [observe, hx]⟩
  | fault r => rw [hx] at h; cases h
  | refused r => rw [hx] at h; cases h

theorem runOps_cons_of_next {x : Sample} {s t : State} (h : applyOp x s = .next t) (xs : List Sample) :
    runOps (x :: xs) s = runOps xs t ∧ observe (x :: xs) s = t.out :: observe xs t := by
  simp [runOps, observe, h]

/-- A refused operation ends the run for good (R127). -/
theorem runOps_cons_of_refused {x : Sample} {s : State} {r : Refusal} (h : applyOp x s = .refused r)
    (xs : List Sample) : runOps (x :: xs) s = .refused r ∧ observe (x :: xs) s = [] := by
  simp [runOps, observe, h]

/-- A TICK or HOLD that answers a next state, in full. -/
theorem applyOp_noReset {x : Sample} {s t : State} (hx : x.noReset = true) (h : applyOp x s = .next t) :
    (x = tickAt x.pins ∧ (s.atPins x.pins).canTick = true ∧
        t = { tickWrite (s.atPins x.pins) with lastNow := x.pins.now }) ∨
    (x = holdAt x.pins ∧ t = { s.atPins x.pins with out := s.out.hold, toggle := false }) := by
  obtain ⟨w, p⟩ := x
  simp only [Sample.noReset, Bool.or_eq_true, beq_iff_eq] at hx
  rcases hx with rfl | rfl
  · obtain ⟨hr, rfl⟩ := guardedAtNow_eq_next.1 (applyOp_tickAt p s ▸ h)
    exact .inl ⟨rfl, hr, rfl⟩
  · obtain ⟨hr, rfl⟩ := guarded_eq_next.1 (applyOp_holdAt p s ▸ h)
    exact .inr ⟨rfl, rfl⟩

/-- A TICK that answers a next state, in full. -/
theorem applyOp_tick {s t : State} {p : Pins} (h : applyOp (tickAt p) s = .next t) :
    (s.atPins p).canTick = true ∧ t = { tickWrite (s.atPins p) with lastNow := p.now } := by
  obtain ⟨h1, h2⟩ := guardedAtNow_eq_next.1 (applyOp_tickAt p s ▸ h)
  exact ⟨h1, h2.symm⟩

/-- A RESET that answers a next state, in full. -/
theorem applyOp_reset {s t : State} {p : Pins} (h : applyOp (resetAt p) s = .next t) :
    s.runnable = true ∧ t = resetWrite (s.atPins p) := by
  obtain ⟨h1, h2⟩ := guarded_eq_next.1 (applyOp_resetAt p s ▸ h)
  exact ⟨h1, h2.symm⟩

/-- A run of TICKs splits at its first. -/
theorem runTicks_cons {ps : List Pins} {s t : State} {p : Pins} (h : runOps ((p :: ps).map tickAt) s = .next t) :
    (s.atPins p).canTick = true ∧
    ∃ u, u = { tickWrite (s.atPins p) with lastNow := p.now } ∧ runOps (ps.map tickAt) u = .next t ∧
      observe ((p :: ps).map tickAt) s = u.out :: observe (ps.map tickAt) u := by
  obtain ⟨u, h1, h2, h3⟩ := runOps_cons h
  obtain ⟨hc, rfl⟩ := applyOp_tick h1
  exact ⟨hc, _, rfl, h2, h3⟩

end Sys2Proof.Machine
end

