-- ==== Sys2Proof/Tests/Slice0.lean ====
section
/-! SUPPORT. Tests. Expected results come from spec/95_test_vectors.md (the vector is named) or from the rule that is
named; a witness theorem shows a concrete state and operands that meet the hypotheses of one obligation. -/

namespace Sys2Proof.Tests

open Sys2Proof Sys2Proof.Machine

/-! ### Helpers -/

/-- Levels on the inputs, as the encoded form writes them. -/
def at' (clk dt sw now : Nat) : Pins := ⟨clk == 1, dt == 1, sw == 1, now⟩

/-- The state after one operation, and after a sequence (the state before, when it is refused). -/
def after (x : Sample) (s : State) : State :=
  match applyOp x s with
  | .next t => t
  | _ => s

def afterAll (xs : List Sample) (s : State) : State :=
  match runOps xs s with
  | .next t => t
  | _ => s

/-- What one instruction leaves at given levels, and whether it is refused. -/
def runs (i : Instr) (s : State) : Option State :=
  match exec i s with
  | .next t => some t
  | _ => none

def refusal (i : Instr) (s : State) : Option Refusal :=
  match exec i s with
  | .refused r => some r
  | _ => none

def tick (p : Pins) (s : State) : Option State := runs .tick { s with pins := p }

/-- The standard state of the vectors: reset, with the idle generator just served at a time. -/
def quietAt (t : Nat) : State := { State.reset with vIdle := true, tIdle := t }

/-- The strobes, DIR, VOL and MODE of one tick. -/
def brief (o : Option State) : Option (List Strobe × BitVec 2 × BitVec 7 × BitVec 2) :=
  o.map fun t => (t.out.strobes, t.out.dir, t.out.vol, t.out.mode)

def clkCw : Config := Config.standard
def dtCw : Config := { Config.standard with polarity := .dtLeadsCw }

/-! ### Decoding: words written out from R45 to R48 -/

theorem test_decode_reset : decode (.ctrl 0b10#2) = .reset false := by decide
theorem test_decode_reset_with_tick : decode (.ctrl 0b11#2) = .reset true := by decide
theorem test_decode_tick : decode (.ctrl 0b01#2) = .tick := by decide
theorem test_decode_hold : decode (.ctrl 0b00#2) = .hold := by decide
theorem test_decode_keys_0_to_3 : decode (.qkey 0b0000#4) = .key0 ∧ decode (.qkey 0b0001#4) = .key1 ∧
    decode (.qkey 0b0010#4) = .key2 ∧ decode (.qkey 0b0011#4) = .key3 := by decide
theorem test_decode_keys_4_to_7 : decode (.qkey 0b0100#4) = .key4 ∧ decode (.qkey 0b0101#4) = .key5 ∧
    decode (.qkey 0b0110#4) = .key6 ∧ decode (.qkey 0b0111#4) = .key7 := by decide
theorem test_decode_keys_8_to_11 : decode (.qkey 0b1000#4) = .key8 ∧ decode (.qkey 0b1001#4) = .key9 ∧
    decode (.qkey 0b1010#4) = .key10 ∧ decode (.qkey 0b1011#4) = .key11 := by decide
theorem test_decode_keys_12_to_15 : decode (.qkey 0b1100#4) = .key12 ∧ decode (.qkey 0b1101#4) = .key13 ∧
    decode (.qkey 0b1110#4) = .key14 ∧ decode (.qkey 0b1111#4) = .key15 := by decide
theorem test_decode_edges : decode (.sedge 0b00#2) = .edgeHeld ∧ decode (.sedge 0b01#2) = .edgeRise ∧
    decode (.sedge 0b10#2) = .edgeFall ∧ decode (.sedge 0b11#2) = .edgeIdle := by decide
theorem test_decode_windows : decode (.awin 0b11#2) = .win11 ∧ decode (.awin 0b10#2) = .win10 ∧
    decode (.awin 0b01#2) = .win01 ∧ decode (.awin 0b00#2) = .win00 := by decide

/-- The table has 27 rows, and no two rows of one space match one word. -/
theorem test_table_length : opcodeRows.length = 27 := by decide
theorem test_table_rows_disjoint : opcodeRows.Pairwise fun a b =>
    a.space ≠ b.space ∨ a.value &&& (a.mask &&& b.mask) ≠ b.value &&& (a.mask &&& b.mask) := by decide

/-! ### Raw bytes and table words -/

theorem test_bytes_key13 : (decodeBytes .qkey [0x0D#8]).toOption = some (.key13, []) := by decide
theorem test_bytes_rest_kept : (decodeBytes .ctrl [0x01#8, 0x00#8]).toOption = some (.tick, [0x00#8]) := by decide
theorem test_bytes_none_refused : (decodeBytes .ctrl []).toOption = none := by decide
theorem test_bytes_too_wide_refused : rawFits .ctrl 4 = false ∧ rawWord .ctrl 4 = none ∧ rawFits .qkey 16 = false ∧
    rawWord .qkey 16 = none ∧ rawFits .sedge 4 = false ∧ rawFits .awin 4 = false := by decide
theorem test_table_word_tick : decodeTableWord 8 1 = some .tick := by decide
theorem test_table_word_key14 : decodeTableWord 8 14 = some .key14 := by decide
theorem test_table_word_too_wide : decodeTableWord 8 16 = none ∧ decodeTableWord 8 255 = none := by decide

/-- The very next step runs the placed word (V-CT-3). -/
theorem test_fetch_word_runs_tick : step (State.reset.withFetchWord 8 1) = exec .tick State.reset := by rfl

/-! ### WellFormed: one ill-formed configuration for each check of R6 and R126 (V-CT-8 among them) -/

theorem test_standard_is_legal : Config.standard.legal = true := by decide
theorem test_instructions_are_well_formed : Instr.wf (.reset true) = true ∧ Instr.wf .key13 = true := by decide
theorem test_time_unit_not_positive : ({ Config.standard with timeUnitMs := 0 } : Config).legal = false ∧
    ({ Config.standard with timeUnitMs := -1 } : Config).legal = false := by decide
theorem test_time_unit_third_of_ms : ({ Config.standard with timeUnitMs := mkRat 1 3 } : Config).legal = true := by decide
theorem test_window_duration : Config.standard.duration Config.standard.volWin = 2000 := by
  simp [Config.duration, Config.standard]
theorem test_time_w_11 : ({ Config.standard with timeW := some 11 } : Config).legal = false := by decide
theorem test_time_w_12 : ({ Config.standard with timeW := some 12 } : Config).legal = true := by decide
theorem test_vol_win_zero : ({ Config.standard with volWin := 0 } : Config).legal = false := by decide
theorem test_pp_win_zero : ({ Config.standard with ppWin := 0 } : Config).legal = false := by decide
theorem test_idle_cadence_zero : ({ Config.standard with idleCadence := 0 } : Config).legal = false := by decide
theorem test_vol_step_out_of_range : ({ Config.standard with volStep := 0 } : Config).legal = false ∧
    ({ Config.standard with volStep := 101 } : Config).legal = false := by decide
theorem test_hue_step_out_of_range : ({ Config.standard with hueStep := 0 } : Config).legal = false ∧
    ({ Config.standard with hueStep := 360 } : Config).legal = false := by decide
theorem test_vol_reset_101 : ({ Config.standard with volReset := 101 } : Config).legal = false := by decide
theorem test_phase_reset_360 : ({ Config.standard with phaseReset := 360 } : Config).legal = false := by decide
theorem test_debounce_zero_is_legal : ({ Config.standard with debounce := 0 } : Config).legal = true := by decide
theorem test_illegal_config_refused :
    refusal .tick { State.reset with cfg := { Config.standard with volWin := 0 } } = some .illegalConfig := by decide
theorem test_reserved_mode_refused :
    refusal (.reset false) { State.reset with out := { State.reset.out with mode := 0b11#2 } }
      = some .reservedOutputCode := by decide

/-! ### QDEC: V-QD-1 to V-QD-16, whole ticks, and the entries alone under both polarities -/

def qd (prev : BitVec 2) (clk dt : Nat) : Option (List Strobe × BitVec 2 × BitVec 7 × BitVec 2) :=
  brief (tick (at' clk dt 1 10) { quietAt 0 with prev := prev })

theorem test_vqd_1_to_4 : qd 0b00#2 0 0 = some ([], 0b00#2, 50#7, 0b00#2) ∧
    qd 0b00#2 0 1 = some ([.cmdVolDec, .volRedraw], 0b11#2, 48#7, 0b01#2) ∧
    qd 0b00#2 1 0 = some ([.cmdVolInc, .volRedraw], 0b01#2, 52#7, 0b01#2) ∧
    qd 0b00#2 1 1 = some ([], 0b00#2, 50#7, 0b00#2) := by decide
theorem test_vqd_5_to_8 : qd 0b01#2 0 0 = some ([.cmdVolInc, .volRedraw], 0b01#2, 52#7, 0b01#2) ∧
    qd 0b01#2 0 1 = some ([], 0b00#2, 50#7, 0b00#2) ∧ qd 0b01#2 1 0 = some ([], 0b00#2, 50#7, 0b00#2) ∧
    qd 0b01#2 1 1 = some ([.cmdVolDec, .volRedraw], 0b11#2, 48#7, 0b01#2) := by decide
theorem test_vqd_9_to_12 : qd 0b10#2 0 0 = some ([.cmdVolDec, .volRedraw], 0b11#2, 48#7, 0b01#2) ∧
    qd 0b10#2 0 1 = some ([], 0b00#2, 50#7, 0b00#2) ∧ qd 0b10#2 1 0 = some ([], 0b00#2, 50#7, 0b00#2) ∧
    qd 0b10#2 1 1 = some ([.cmdVolInc, .volRedraw], 0b01#2, 52#7, 0b01#2) := by decide
theorem test_vqd_13_to_16 : qd 0b11#2 0 0 = some ([], 0b00#2, 50#7, 0b00#2) ∧
    qd 0b11#2 0 1 = some ([.cmdVolInc, .volRedraw], 0b01#2, 52#7, 0b01#2) ∧
    qd 0b11#2 1 0 = some ([.cmdVolDec, .volRedraw], 0b11#2, 48#7, 0b01#2) ∧
    qd 0b11#2 1 1 = some ([], 0b00#2, 50#7, 0b00#2) := by decide

/-- DIR under CLK_LEADS_CW, DIR under DT_LEADS_CW, and PREV, of a key's entry run alone. -/
def keyAlone (i : Instr) : Option (BitVec 2 × BitVec 2) × Option (BitVec 2 × BitVec 2) :=
  ((runs i { State.reset with cfg := clkCw }).map fun t => (t.out.dir, t.prev),
   (runs i { State.reset with cfg := dtCw }).map fun t => (t.out.dir, t.prev))

theorem test_key0 : keyAlone .key0 = (some (0b00#2, 0b00#2), some (0b00#2, 0b00#2)) := by decide
theorem test_key1 : keyAlone .key1 = (some (0b11#2, 0b01#2), some (0b01#2, 0b01#2)) := by decide
theorem test_key2 : keyAlone .key2 = (some (0b01#2, 0b10#2), some (0b11#2, 0b10#2)) := by decide
theorem test_key3 : keyAlone .key3 = (some (0b00#2, 0b11#2), some (0b00#2, 0b11#2)) := by decide
theorem test_key4 : keyAlone .key4 = (some (0b01#2, 0b00#2), some (0b11#2, 0b00#2)) := by decide
theorem test_key5 : keyAlone .key5 = (some (0b00#2, 0b01#2), some (0b00#2, 0b01#2)) := by decide
theorem test_key6 : keyAlone .key6 = (some (0b00#2, 0b10#2), some (0b00#2, 0b10#2)) := by decide
theorem test_key7 : keyAlone .key7 = (some (0b11#2, 0b11#2), some (0b01#2, 0b11#2)) := by decide
theorem test_key8 : keyAlone .key8 = (some (0b11#2, 0b00#2), some (0b01#2, 0b00#2)) := by decide
theorem test_key9 : keyAlone .key9 = (some (0b00#2, 0b01#2), some (0b00#2, 0b01#2)) := by decide
theorem test_key10 : keyAlone .key10 = (some (0b00#2, 0b10#2), some (0b00#2, 0b10#2)) := by decide
theorem test_key11 : keyAlone .key11 = (some (0b01#2, 0b11#2), some (0b11#2, 0b11#2)) := by decide
theorem test_key12 : keyAlone .key12 = (some (0b00#2, 0b00#2), some (0b00#2, 0b00#2)) := by decide
theorem test_key13 : keyAlone .key13 = (some (0b01#2, 0b01#2), some (0b11#2, 0b01#2)) := by decide
theorem test_key14 : keyAlone .key14 = (some (0b11#2, 0b10#2), some (0b01#2, 0b10#2)) := by decide
theorem test_key15 : keyAlone .key15 = (some (0b00#2, 0b11#2), some (0b00#2, 0b11#2)) := by decide

/-! ### SWDET: V-SW-1 to V-SW-7 -/

/-- Toggle, T_TOG, LAST_LVL, PLAY and MODE of one tick at rest pins. -/
def sw (lvl : Bool) (level : Nat) (vTog : Bool) (tTog now : Nat) :
    Option (Bool × Nat × Bool × Bool × BitVec 2) :=
  (tick (at' 1 1 level now) { quietAt now with lastLvl := lvl, vTog := vTog, tTog := tTog }).map fun t =>
    (t.out.cmdPpToggle, t.tTog, t.lastLvl, t.play, t.out.mode)

theorem test_vsw_1 : sw true 1 false 7 0 = some (false, 7, true, false, 0b00#2) := by decide
theorem test_vsw_2 : sw true 0 false 7 0 = some (true, 0, false, true, 0b10#2) := by decide
theorem test_vsw_3 : sw true 0 true 1000 1200 = some (false, 1000, false, false, 0b10#2) := by decide
theorem test_vsw_4 : sw true 0 true 1000 1201 = some (true, 1201, false, true, 0b10#2) := by decide
theorem test_vsw_5 : sw false 0 true 1000 5000 = some (false, 1000, false, false, 0b00#2) := by decide
theorem test_vsw_6 : sw false 1 true 1000 5000 = some (false, 1000, true, false, 0b00#2) := by decide
theorem test_vsw_7 : sw true 0 true 1000 1000 = some (false, 1000, false, false, 0b10#2) := by decide

/-! ### ARB: V-AR-1 to V-AR-8 and V-ID-1 to V-ID-9, on the windows as the entry sees them -/

def windows (vVol : Bool) (tVol : Nat) (vTog : Bool) (tTog now : Nat) : Option (BitVec 2) :=
  (tick (at' 1 1 1 now) { quietAt now with vVol := vVol, tVol := tVol, vTog := vTog, tTog := tTog }).map (·.out.mode)

theorem test_var_1_2 : windows true 0 false 7 1999 = some 0b01#2 ∧ windows true 0 false 7 2000 = some 0b00#2 := by
  decide
theorem test_var_3_4 : windows false 7 true 0 999 = some 0b10#2 ∧ windows false 7 true 0 1000 = some 0b00#2 := by
  decide
theorem test_var_5_6 : windows true 500 true 500 500 = some 0b01#2 ∧ windows true 0 true 1500 1999 = some 0b01#2 := by
  decide
theorem test_var_7_8 : windows true 0 true 1500 2000 = some 0b10#2 ∧ windows true 0 true 900 2000 = some 0b00#2 := by
  decide

/-- IR, PHASE_OUT, PHASE and T_IDLE of one window entry. -/
def idle (i : Instr) (hueStep : Nat) (vIdle : Bool) (tIdle : Nat) (phase : BitVec 9) (now : Nat) :
    Option (Bool × BitVec 9 × BitVec 9 × Nat) :=
  (runs i { State.reset with
    cfg := { Config.standard with hueStep := hueStep }
    vIdle := vIdle, tIdle := tIdle, phase := phase, pins := Pins.rest now }).map fun t =>
    (t.out.idleRedraw, t.out.phaseOut, t.phase, t.tIdle)

theorem test_vid_1 : idle .win00 1 false 9 0#9 0 = some (true, 0#9, 1#9, 0) := by decide
theorem test_vid_2 : idle .win00 1 true 100 7#9 149 = some (false, 7#9, 7#9, 100) := by decide
theorem test_vid_3 : idle .win00 1 true 100 7#9 150 = some (true, 7#9, 8#9, 150) := by decide
theorem test_vid_4 : idle .win00 1 true 100 359#9 150 = some (true, 359#9, 0#9, 150) := by decide
theorem test_vid_5 : idle .win00 10 true 100 355#9 150 = some (true, 355#9, 5#9, 150) := by decide
theorem test_vid_6 : idle .win00 1 true 100 7#9 100 = some (false, 7#9, 7#9, 100) := by decide
theorem test_vid_7 : idle .win00 1 true 100 7#9 100000 = some (true, 7#9, 8#9, 100000) := by decide
theorem test_vid_8 : idle .win10 1 true 100 7#9 150 = some (false, 7#9, 7#9, 100) := by decide
theorem test_vid_9 : idle .win01 1 false 9 7#9 150 = some (false, 7#9, 7#9, 9) := by decide

/-! ### The event stage: V-EV-1 to V-EV-4, V-EV-6 to V-EV-10, V-EV-12 -/

/-- VOL, T_VOL, strobes and MODE of one step tick at NOW = 5000. -/
def ev (c : Config) (vol : BitVec 7) (clk dt : Nat) : Option (BitVec 7 × Nat × List Strobe × BitVec 2) :=
  (tick (at' clk dt 1 5000) { quietAt 4990 with cfg := c, vol := vol, vVol := true }).map fun t =>
    (t.vol, t.tVol, t.out.strobes, t.out.mode)

theorem test_vev_1 : ev clkCw 50#7 0 1 = some (52#7, 5000, [.cmdVolInc, .volRedraw], 0b01#2) := by decide
theorem test_vev_2 : ev clkCw 99#7 0 1 = some (100#7, 5000, [.cmdVolInc, .volRedraw], 0b01#2) := by decide
theorem test_vev_3 : ev clkCw 100#7 0 1 = some (100#7, 5000, [.cmdVolInc, .volRedraw], 0b01#2) := by decide
theorem test_vev_4 : ev { clkCw with volTsOnClamp := false, cmdOnClamp := false } 100#7 0 1
    = some (100#7, 0, [], 0b00#2) := by decide
theorem test_vev_6 : ev clkCw 1#7 1 0 = some (0#7, 5000, [.cmdVolDec, .volRedraw], 0b01#2) := by decide
theorem test_vev_7 : ev clkCw 0#7 1 0 = some (0#7, 5000, [.cmdVolDec, .volRedraw], 0b01#2) := by decide
theorem test_vev_8 : ev { clkCw with volTsOnClamp := false } 0#7 1 0
    = some (0#7, 0, [.cmdVolDec], 0b00#2) := by decide
theorem test_vev_9 : ev { clkCw with cmdOnClamp := false } 0#7 1 0
    = some (0#7, 5000, [.volRedraw], 0b01#2) := by decide
theorem test_vev_10 : ev { clkCw with volStep := 5 } 98#7 0 1
    = some (100#7, 5000, [.cmdVolInc, .volRedraw], 0b01#2) := by decide

theorem test_vev_12 : brief (tick (at' 0 1 0 1000) (quietAt 0))
    = some ([.cmdVolInc, .volRedraw, .cmdPpToggle, .ppRedraw], 0b01#2, 52#7, 0b01#2) := by decide

/-! ### The control space: V-CT-1 to V-CT-7 -/

def busy : State := { quietAt 90 with
  prev := 0b00#2, lastLvl := false, vTog := true, vVol := true, vol := 77#7, play := true, phase := 300#9
  lastNow := 100
  out := { State.reset.out with mode := 0b10#2, dir := 0b11#2, cmdVolDec := true, vol := 77#7, phaseOut := 299#9 } }

theorem test_vct_1_state : (runs (.reset false) busy).map (fun t =>
      [t.prev.toNat, t.lastLvl.toNat, t.vTog.toNat, t.vVol.toNat, t.vIdle.toNat, t.phase.toNat, t.vol.toNat,
        t.play.toNat, t.lastNow])
    = some [3, 1, 0, 0, 0, 0, 50, 0, 0] := by decide
theorem test_vct_1_outputs : (runs (.reset false) busy).map (·.out)
    = some ⟨0b00#2, false, false, false, false, false, false, 0#9, 0b00#2, 50#7, false⟩ := by decide
theorem test_vct_2 : exec (.reset true) busy = exec (.reset false) busy := by rfl
theorem test_vct_3 : (tick (at' 1 1 1 0) State.reset).map (fun t =>
      (t.out.strobes, t.out.phaseOut, t.phase, t.tIdle, t.out.mode))
    = some ([.idleRedraw], 0#9, 1#9, 0, 0b00#2) := by decide
theorem test_vct_4 : brief (tick (at' 0 1 0 0) State.reset)
    = some ([.cmdVolInc, .volRedraw, .cmdPpToggle, .ppRedraw], 0b01#2, 52#7, 0b01#2) := by decide
theorem test_vct_5 : (runs .hold busy).map (fun t => (t.out.strobes, t.out.dir, t.out.mode, t.out.vol, t.vol, t.prev))
    = some ([], 0b00#2, 0b10#2, 77#7, 77#7, 0b00#2) := by decide
theorem test_vct_6 : brief (tick (at' 1 1 1 70) (quietAt 70)) = some ([], 0b00#2, 50#7, 0b00#2) := by decide
/-- The order of the refusals is the model's choice (assumption 24). -/
def badCode : State := { busy with pins := at' 1 1 1 99, out := { busy.out with dir := 0b10#2 } }

theorem test_refusal_order : refusal .tick badCode = some .reservedOutputCode ∧
    refusal .tick { badCode with cfg := { clkCw with volWin := 0 } } = some .illegalConfig := by decide
theorem test_vct_7 : refusal .tick { busy with pins := at' 1 1 1 99 } = some .timeBackwards ∧
    (runs .tick { busy with pins := at' 1 1 1 100 }).isSome = true := by decide

/-! ### The notation (R54, R55) -/

theorem test_notation_tick : (Op.tick false true true 250).encode = ['0', '1', '1', '@', '2', '5', '0'] := by decide
theorem test_notation_reset_hold : Op.reset.encode = ['R'] ∧ Op.hold.encode = ['H'] := by decide
theorem test_notation_read : Op.decode ['1', '0', '1', '@', '5', '0', '0', '0'] = some (.tick true false true 5000) := by
  decide
theorem test_notation_refuses_malformed : Op.decode ['1', '0', '@', '5'] = none ∧ Op.decode ['1', '0', '1', '@'] = none := by
  decide
theorem test_pseudo_copy : expand [.op .reset, .op (.tick false true true 50), .op .hold, .press 60, .wait 70, .pins true false 80]
    = [.reset, .tick false true true 50, .hold, .tick false true false 60, .tick false true false 70,
       .tick true false false 80] := by decide
theorem test_pseudo_default : expand [.op .reset, .release 5] = [.reset, .tick true true true 5] := by decide
theorem test_notation_comment : dropComment ['H', ';', 'x'] = ['H'] := by decide
theorem test_cfg_view : Config.standard.cfgPolarity = 0#1 ∧ Config.standard.cfgClamp = 0b11#2 := by decide

/-! ### Witnesses: for each obligation with hypotheses, a concrete state and operands that meet all of them -/

/-- At rest with nothing open; and the same with levels on the inputs. -/
def rest : State := quietAt 0
def restAt (clk dt sw now : Nat) : State := { rest with pins := at' clk dt sw now }

theorem witness_StepRunsDecodedOperation :
    ({ rest with queue := [tickAt (Pins.rest 3), holdAt (Pins.rest 0)] } : State).queue
      = tickAt (Pins.rest 3) :: [holdAt (Pins.rest 0)] ∧ rest.queue = [] := ⟨rfl, rfl⟩

theorem witness_DecodeAndEncodeAreInverse : Instr.wf (.reset true) = true := rfl

theorem witness_ResetLoadsEveryResetValue : busy.runnable = true ∧
    applyOp (tickAt (at' 1 1 1 99)) busy = .refused .timeBackwards := ⟨by decide, by rfl⟩

theorem witness_HoldChangesNoState : busy.runnable = true ∧
    exec .hold { busy with pins := at' 0 1 0 7 } = .next (after (holdAt (at' 0 1 0 7)) busy) := ⟨by decide, by rfl⟩

theorem witness_TickIsTheComposedStep :
    (busy.runnable = true ∧ ({ busy with pins := at' 0 1 0 100 } : State).lastNow ≤ (at' 0 1 0 100).now) ∧
    (at' 0 1 0 99).now < ({ busy with pins := at' 0 1 0 99 } : State).lastNow := by decide

/-- The first time at which a tick can run in `busy`, and the last at which it cannot: the premise `canTick` of every
statement about one TICK. The premise `runnable` of the statements about one entry has `busy` and `rest` above. -/
theorem witness_canTick : ({ busy with pins := at' 0 1 0 100 } : State).canTick = true ∧
    ({ busy with pins := at' 0 1 0 99 } : State).canTick = false ∧ (restAt 0 1 0 0).canTick = true := by decide

theorem witness_BackwardTickIsRefusedForGood : busy.runnable = true ∧ (at' 1 1 1 99).now < busy.lastNow ∧
    runOps [holdAt (Pins.rest 0), tickAt (at' 1 1 1 99)] busy = .refused .timeBackwards := ⟨by decide, by decide, by rfl⟩

theorem witness_EveryMonotonicTickCompletes : busy.cfg.legal = true ∧ busy.out.dir ≠ 0b10#2 ∧
    busy.out.mode ≠ 0b11#2 ∧ ({ busy with pins := at' 0 0 0 100 } : State).lastNow ≤ 100 := by decide

theorem witness_IllegalConfigurationIsRefused :
    ({ rest with cfg := { clkCw with hueStep := 360 } } : State).cfg.legal = false := by decide

theorem witness_ReservedCodesAreNeverProducedAndRefused :
    exec .key1 rest = .next { rest with prev := 0b01#2, out := { rest.out with dir := 0b11#2 } } ∧
    ({ rest with out := { rest.out with dir := 0b10#2 } } : State).cfg.legal = true ∧
    ({ rest with out := { rest.out with mode := 0b11#2 } } : State).out.mode = 0b11#2 := ⟨by rfl, by decide, rfl⟩

theorem witness_KeyEntriesDriveDirAndLoadPrev : rest.runnable = true ∧ busy.runnable = true ∧
    ({ busy with cfg := dtCw } : State).runnable = true := by decide

theorem witness_NoChangeTickIsNoStep : (restAt 1 1 1 0).canTick = true ∧
    (restAt 1 1 1 0).prev = (restAt 1 1 1 0).pins.cur := by decide

theorem witness_DoubleTickIsNoStep : (restAt 0 0 1 5).canTick = true ∧
    (restAt 0 0 1 5).prev ^^^ (restAt 0 0 1 5).pins.cur = 0b11#2 ∧
    exec .tick (restAt 0 0 1 5) = .next (after (tickAt (at' 0 0 1 5)) rest) ∧
    (after (tickAt (at' 0 0 1 5)) rest).prev ^^^ (at' 1 0 1 5).cur = 0b10#2 ∧
    (after (tickAt (at' 0 0 1 5)) rest).prev ^^^ (at' 0 1 1 5).cur = 0b01#2 ∧ 5 ≤ (at' 1 0 1 5).now :=
  ⟨by decide, by decide, by rfl, by decide, by decide, by decide⟩

theorem witness_SingleTickIsOneStep :
    ((restAt 0 1 1 5).canTick = true ∧ Sys2Proof.key rest.prev (at' 0 1 1 5).cur = 13#4) ∧
    ((restAt 1 0 1 5).canTick = true ∧ Sys2Proof.key rest.prev (at' 1 0 1 5).cur = 14#4) := by decide

theorem witness_RomFollowsGrayPositions : keyClass (Sys2Proof.key 0b11#2 0b01#2) = .single ∧
    keyClass (Sys2Proof.key 0b11#2 0b00#2) = .double ∧ keyClass (Sys2Proof.key 0b10#2 0b10#2) = .noChange := by decide

/-- V-QD-17, one clockwise cycle. -/
def cycle : List Pins := [at' 0 1 1 10, at' 0 0 1 20, at' 1 0 1 30, at' 1 1 1 40]

/-- The cycle with a HOLD in it, whose levels are sampled by nothing. -/
def cycleWithHold : List Sample :=
  [tickAt (at' 0 1 1 10), tickAt (at' 0 0 1 20), holdAt (at' 0 1 1 0), tickAt (at' 1 0 1 30), tickAt (at' 1 1 1 40)]

theorem witness_NetCountLaw : (∀ x ∈ cycleWithHold, x.noReset = true) ∧
    runOps cycleWithHold rest = .next (afterAll cycleWithHold rest) ∧
    doubles rest.prev (tickPairs cycleWithHold) = 0 ∧ (afterAll cycleWithHold rest).prev = rest.prev :=
  ⟨by decide, by rfl, by decide, by decide⟩

theorem test_vqd_17_sum_with_hold : dirSum (observe cycleWithHold rest) = 4 := by decide

theorem test_vqd_17_sum : dirSum (observe (cycle.map tickAt) rest) = 4 := by decide

/-- V-QD-19 and V-QD-20, a bouncing CLK that settles high, and low. -/
def bounceBack : List Pins := [at' 0 1 1 10, at' 1 1 1 11, at' 0 1 1 12, at' 1 1 1 13]
def bounceOver : List Pins := [at' 0 1 1 10, at' 1 1 1 11, at' 0 1 1 12]

theorem witness_SingleLineBounceCountsNetStep :
    keyClass (Sys2Proof.key rest.prev 0b01#2) = .single ∧
    (runOps (bounceBack.map tickAt) rest = .next (afterAll (bounceBack.map tickAt) rest) ∧
      (∀ p ∈ bounceBack, p.cur = rest.prev ∨ p.cur = 0b01#2) ∧
      (afterAll (bounceBack.map tickAt) rest).prev = rest.prev) ∧
    (runOps (bounceOver.map tickAt) rest = .next (afterAll (bounceOver.map tickAt) rest) ∧
      (∀ p ∈ bounceOver, p.cur = rest.prev ∨ p.cur = 0b01#2) ∧
      (afterAll (bounceOver.map tickAt) rest).prev = 0b01#2) :=
  ⟨by decide, ⟨by rfl, by decide, by decide⟩, ⟨by rfl, by decide, by decide⟩⟩

theorem witness_DecoderRecoversAfterDoubleTick :
    applyOp (tickAt (at' 0 0 1 10)) rest = .next (after (tickAt (at' 0 0 1 10)) rest) ∧
    applyOp (tickAt (at' 1 0 1 20)) (after (tickAt (at' 0 0 1 10)) rest)
      = .next (after (tickAt (at' 1 0 1 20)) (after (tickAt (at' 0 0 1 10)) rest)) ∧
    keyClass (Sys2Proof.key rest.prev (at' 0 0 1 10).cur) = .double ∧
    keyClass (Sys2Proof.key (at' 0 0 1 10).cur (at' 1 0 1 20).cur) = .single := ⟨by rfl, by rfl, by decide, by decide⟩

/-- Two states that share PREV and the encoder lines and differ elsewhere. -/
theorem witness_QdecReadsOnlyPrevAndCur :
    ({ busy with pins := at' 0 1 0 100 } : State).canTick = true ∧
    ({ rest with prev := 0b00#2, pins := at' 0 1 1 7 } : State).canTick = true ∧ busy.cfg.polarity = rest.cfg.polarity ∧
    busy.prev = 0b00#2 ∧ (at' 0 1 0 100).clk = (at' 0 1 1 7).clk ∧ (at' 0 1 0 100).dt = (at' 0 1 1 7).dt := by decide

/-- V-QD-23, three transitions between two ticks; and the same backwards. -/
theorem witness_TickSeesTransitionsModuloFour :
    ((restAt 1 0 1 10).canTick = true ∧ (restAt 1 0 1 10).pins.cur = pairAt (gray rest.prev + (3 : Nat))) ∧
    ((restAt 0 1 1 10).canTick = true ∧ (restAt 0 1 1 10).pins.cur = pairAt (gray rest.prev - (3 : Nat))) := by decide

/-- Both sides of the debounce gate: elapsed DEBOUNCE, and one more. -/
theorem witness_FallingEdgeTogglesWhenGatePasses :
    ({ rest with vTog := true, tTog := 1000, pins := at' 1 1 0 1200 } : State).canTick = true ∧
    ({ rest with vTog := true, tTog := 1000, pins := at' 1 1 0 1200 } : State).gate = false ∧
    ({ rest with vTog := true, tTog := 1000, pins := at' 1 1 0 1201 } : State).canTick = true ∧
    ({ rest with vTog := true, tTog := 1000, pins := at' 1 1 0 1201 } : State).gate = true := by decide

/-- Two accepted presses, 201 apart. -/
def press1 : State := after (tickAt (at' 1 1 0 1000)) rest
def release1 : State := after (tickAt (at' 1 1 1 1010)) press1
def press2 : State := after (tickAt (at' 1 1 0 1201)) release1

theorem witness_TogglesAreMoreThanDebounceApart :
    (∀ x ∈ [tickAt (at' 1 1 1 1010)], x.noReset = true) ∧
    applyOp (tickAt (at' 1 1 0 1000)) rest = .next press1 ∧ press1.out.cmdPpToggle = true ∧
    runOps [tickAt (at' 1 1 1 1010)] press1 = .next release1 ∧
    applyOp (tickAt (at' 1 1 0 1201)) release1 = .next press2 ∧ press2.out.cmdPpToggle = true :=
  ⟨by decide, by rfl, by decide, by rfl, by rfl, by decide⟩

/-- V-SW-8: the press stays held long after the debounce window. -/
def held : List Sample := [tickAt (at' 1 1 0 1500), holdAt (Pins.rest 0), tickAt (at' 1 1 0 3000)]

theorem witness_HeldPressNeverToggles :
    (applyOp (tickAt (at' 1 1 0 1000)) rest = .next press1 ∧ (at' 1 1 0 1000).sw = false) ∧
    (∀ x ∈ held, x.noReset = true) ∧ (∀ p : Pins, tickAt p ∈ held → p.sw = false) ∧ press1.lastLvl = false ∧
    runOps held press1 = .next (afterAll held press1) ∧
    applyOp (tickAt (at' 1 1 1 3010)) (afterAll held press1)
      = .next (after (tickAt (at' 1 1 1 3010)) (afterAll held press1)) := by
  refine ⟨⟨by rfl, rfl⟩, by decide, fun p hp => ?_, by decide, by rfl, by rfl⟩
  simp only [held, tickAt, holdAt, List.mem_cons, List.not_mem_nil, or_false, Sample.mk.injEq] at hp
  rcases hp with ⟨-, rfl⟩ | ⟨hw, -⟩ | ⟨-, rfl⟩
  · rfl
  · exact absurd hw (by decide)
  · rfl

/-- V-SW-9: a long press whose release bounces, with a held tick and a HOLD inside it. -/
def longHeld : State := afterAll held press1
def bounceUp : State := after (tickAt (at' 1 1 1 3000)) longHeld
def bounceDown : State := after (tickAt (at' 1 1 0 3005)) bounceUp

theorem witness_ReleaseBounceTogglesAgain :
    (∀ x ∈ held, x.noReset = true) ∧ applyOp (tickAt (at' 1 1 0 1000)) rest = .next press1 ∧
    press1.out.cmdPpToggle = true ∧ runOps held press1 = .next longHeld ∧
    (∀ o ∈ observe held press1, o.cmdPpToggle = false) ∧ longHeld.lastLvl = false ∧
    applyOp (tickAt (at' 1 1 1 3000)) longHeld = .next bounceUp ∧ (at' 1 1 1 3000).sw = true ∧
    applyOp (tickAt (at' 1 1 0 3005)) bounceUp = .next bounceDown ∧ (at' 1 1 0 3005).sw = false ∧
    3005 - 1000 > rest.cfg.debounce :=
  ⟨by decide, by rfl, by decide, by rfl, by decide, by decide, by rfl, by decide, by rfl, by decide, by decide⟩

theorem witness_SwdetReadsOnlyItsOwnRegisters :
    ({ rest with prev := 0b00#2, vol := 3#7, pins := at' 0 1 0 9 } : State).canTick = true ∧
    (restAt 1 1 0 9).canTick = true ∧ (at' 0 1 0 9).sw = (at' 1 1 0 9).sw := by decide

/-- The idle cadence at its boundary (V-ID-2, V-ID-3), in states where WIN00 can run. -/
theorem witness_ClosedWindowsSelectIdleAndRedraw :
    ({ quietAt 100 with pins := Pins.rest 149 } : State).canTick = true ∧
    ({ quietAt 100 with pins := Pins.rest 149 } : State).idleDue = false ∧
    ({ quietAt 100 with pins := Pins.rest 150 } : State).canTick = true ∧
    ({ quietAt 100 with pins := Pins.rest 150 } : State).idleDue = true := by decide

/-- A step at 10, then quiet ticks up to and past the end of the volume window. -/
def stepped : State := after (tickAt (at' 0 1 1 10)) rest
def quietOps : List Sample := [tickAt (at' 0 1 1 2009), holdAt (Pins.rest 0), tickAt (at' 0 1 1 2010)]

theorem witness_ModeOnlyMovesDownWithoutEvents :
    (∀ x ∈ quietOps, x.noReset = true) ∧ applyOp (tickAt (at' 0 1 1 10)) rest = .next stepped ∧
    runOps quietOps stepped = .next (afterAll quietOps stepped) ∧
    (∀ o ∈ observe quietOps stepped, o.quiet = true) ∧
    modeRank stepped.out.mode = 2 ∧ modeRank (afterAll quietOps stepped).out.mode = 0 :=
  ⟨by decide, by rfl, by rfl, by decide, by decide, by decide⟩

theorem witness_SkippedTicksShowTheSameMode :
    (∀ x ∈ quietOps, x.noReset = true) ∧ runOps quietOps stepped = .next (afterAll quietOps stepped) ∧
    (∀ o ∈ observe quietOps stepped, o.quiet = true) ∧
    applyOp (tickAt (at' 0 1 1 2400)) stepped = .next (after (tickAt (at' 0 1 1 2400)) stepped) ∧
    (after (tickAt (at' 0 1 1 2400)) stepped).out.quiet = true ∧
    applyOp (tickAt (at' 0 1 1 2400)) (afterAll quietOps stepped)
      = .next (after (tickAt (at' 0 1 1 2400)) (afterAll quietOps stepped)) ∧
    (after (tickAt (at' 0 1 1 2400)) (afterAll quietOps stepped)).out.quiet = true :=
  ⟨by decide, by rfl, by decide, by rfl, by decide, by rfl, by decide⟩

/-- A redraw at 50, a quiet tick at 99, a redraw at 100, the cadence exactly. -/
def drawn1 : State := after (tickAt (at' 1 1 1 50)) rest
def drawn2 : State := after (tickAt (at' 1 1 1 99)) drawn1
def drawn3 : State := after (tickAt (at' 1 1 1 100)) drawn2

theorem witness_SuccessiveIdleRedrawsAreSpacedAndPhased :
    (∀ x ∈ [tickAt (at' 1 1 1 99)], x.noReset = true) ∧
    applyOp (tickAt (at' 1 1 1 50)) rest = .next drawn1 ∧ drawn1.out.idleRedraw = true ∧
    runOps [tickAt (at' 1 1 1 99)] drawn1 = .next drawn2 ∧
    (∀ o ∈ observe [tickAt (at' 1 1 1 99)] drawn1, o.idleRedraw = false) ∧
    applyOp (tickAt (at' 1 1 1 100)) drawn2 = .next drawn3 ∧ drawn3.out.idleRedraw = true :=
  ⟨by decide, by rfl, by decide, by rfl, by decide, by rfl, by decide⟩

theorem rest_inv : rest.Inv := by constructor <;> decide
theorem rest_idleApart : rest.IdleApart := by constructor <;> decide

theorem witness_FirstIdleTickAfterWindowRedraws : rest.Inv ∧ rest.IdleApart ∧
    rest.cfg.idleCadence ≤ min rest.cfg.volWin rest.cfg.ppWin ∧
    applyOp (tickAt (at' 0 1 1 10)) rest = .next stepped ∧ stepped.out.mode ≠ Mode.idle.code ∧
    applyOp (tickAt (at' 0 1 1 2010)) stepped = .next (after (tickAt (at' 0 1 1 2010)) stepped) ∧
    (after (tickAt (at' 0 1 1 2010)) stepped).out.mode = Mode.idle.code :=
  ⟨rest_inv, rest_idleApart, by decide, by rfl, by decide, by rfl, by decide⟩

theorem witness_IdleRedrawsStayOutOfWindows : rest.Inv ∧ rest.IdleApart ∧
    (tickAt (at' 0 1 1 10)).isCtrl = true ∧ applyOp (tickAt (at' 0 1 1 10)) rest = .next stepped :=
  ⟨rest_inv, rest_idleApart, by decide, by rfl⟩

/-- A run from RESET: a step, a toggle, a HOLD. -/
def events : List Sample := [tickAt (at' 0 1 1 10), tickAt (at' 0 1 0 20), holdAt (Pins.rest 0)]
def fresh : State := after (resetAt (Pins.rest 0)) busy

/-- The hypotheses of PlayInvertsOnEachToggle and ValidBitsRecordEventsSinceReset. -/
theorem witness_runs_since_reset : (∀ x ∈ events, x.noReset = true) ∧
    applyOp (resetAt (Pins.rest 0)) busy = .next fresh ∧ runOps events fresh = .next (afterAll events fresh) ∧
    (∃ o ∈ observe events fresh, o.volRedraw = true) ∧ (∃ o ∈ observe events fresh, o.cmdPpToggle = true) :=
  ⟨by decide, by rfl, by rfl, by decide, by decide⟩

/-- V-EV-5 at the top of the range, and its mirror at the bottom. -/
theorem witness_ClampIsNotInvertible :
    (let s := { rest with vol := 100#7 }
     applyOp (tickAt (at' 0 1 1 10)) s = .next (after (tickAt (at' 0 1 1 10)) s) ∧
     applyOp (tickAt (at' 1 1 1 11)) (after (tickAt (at' 0 1 1 10)) s)
       = .next (after (tickAt (at' 1 1 1 11)) (after (tickAt (at' 0 1 1 10)) s)) ∧
     s.vol = 100#7 ∧ (after (tickAt (at' 0 1 1 10)) s).out.dir = 0b01#2 ∧
     (after (tickAt (at' 1 1 1 11)) (after (tickAt (at' 0 1 1 10)) s)).out.dir = 0b11#2) ∧
    (let s := { rest with vol := 0#7 }
     applyOp (tickAt (at' 1 0 1 10)) s = .next (after (tickAt (at' 1 0 1 10)) s) ∧
     applyOp (tickAt (at' 1 1 1 11)) (after (tickAt (at' 1 0 1 10)) s)
       = .next (after (tickAt (at' 1 1 1 11)) (after (tickAt (at' 1 0 1 10)) s)) ∧
     s.vol = 0#7 ∧ (after (tickAt (at' 1 0 1 10)) s).out.dir = 0b11#2 ∧
     (after (tickAt (at' 1 1 1 11)) (after (tickAt (at' 1 0 1 10)) s)).out.dir = 0b01#2) :=
  ⟨⟨by rfl, by rfl, by rfl, by decide, by decide⟩, ⟨by rfl, by rfl, by rfl, by decide, by decide⟩⟩

/-- The hypotheses of EveryStepKeepsTheInvariant and ConfigurationNeverChanges. -/
theorem witness_EveryStepKeepsTheInvariant : ({ rest with queue := [tickAt (at' 0 1 1 10)] } : State).Inv ∧
    step { rest with queue := [tickAt (at' 0 1 1 10)] } = .next stepped :=
  ⟨by constructor <;> decide, by rfl⟩

/-- Two states that agree on the state elements, the configuration and the inputs, and on nothing else. -/
theorem witness_TickIsAFunctionOfStateAndInputs :
    let s₁ := restAt 0 1 0 100
    let s₂ : State := { restAt 0 1 0 100 with tTog := 55, tVol := 66, lastNow := 9, out := busy.out, draws := 4 }
    s₁.canTick = true ∧ s₂.canTick = true ∧ s₁.cfg = s₂.cfg ∧ s₁.pins = s₂.pins ∧ s₁.prev = s₂.prev ∧
      s₁.lastLvl = s₂.lastLvl ∧ s₁.vTog = s₂.vTog ∧ (s₁.vTog = true → s₁.tTog = s₂.tTog) ∧ s₁.vVol = s₂.vVol ∧
      (s₁.vVol = true → s₁.tVol = s₂.tVol) ∧ s₁.vIdle = s₂.vIdle ∧ (s₁.vIdle = true → s₁.tIdle = s₂.tIdle) ∧
      s₁.phase = s₂.phase ∧ s₁.vol = s₂.vol ∧ s₁.play = s₂.play := by decide

/-- The hypotheses of FirstTickAtRestRedrawsIdle and FirstTickMeasuresAgainstResetValues. -/
theorem witness_FirstTicksAfterReset : applyOp (resetAt (Pins.rest 0)) busy = .next fresh ∧
    busy.cfg.qdecPrevReset = 0b11#2 ∧ busy.cfg.swLevelReset = true ∧
    (at' 1 0 1 0).cur ^^^ busy.cfg.qdecPrevReset = 0b01#2 ∧ (at' 0 1 1 0).cur ^^^ busy.cfg.qdecPrevReset = 0b10#2 ∧
    (at' 0 0 1 0).cur ^^^ busy.cfg.qdecPrevReset = 0b11#2 ∧ (at' 1 1 0 0).sw = false :=
  ⟨by rfl, by decide, by decide, by decide, by decide, by decide, by decide⟩

/-- A tick with a step and a toggle, a tick with an idle redraw, each followed by one at the same NOW. -/
def both : State := after (tickAt (at' 0 1 0 300)) rest

theorem witness_EqualTimesAreElapsedZero :
    (applyOp (tickAt (at' 0 1 0 300)) rest = .next both ∧
      runOps ([at' 0 1 1 300, at' 1 1 1 300].map tickAt) both = .next (afterAll ([at' 0 1 1 300, at' 1 1 1 300].map tickAt) both) ∧
      applyOp (tickAt (at' 1 1 0 300)) (afterAll ([at' 0 1 1 300, at' 1 1 1 300].map tickAt) both)
        = .next (after (tickAt (at' 1 1 0 300)) (afterAll ([at' 0 1 1 300, at' 1 1 1 300].map tickAt) both)) ∧
      (∀ r ∈ [at' 0 1 1 300, at' 1 1 1 300], r.now = 300) ∧
      both.out.cmdPpToggle = true ∧ both.out.volRedraw = true ∧ both.out.ppRedraw = true) ∧
    (applyOp (tickAt (at' 1 1 1 50)) rest = .next drawn1 ∧ runOps ([].map tickAt) drawn1 = .next drawn1 ∧
      applyOp (tickAt (at' 1 1 1 50)) drawn1 = .next (after (tickAt (at' 1 1 1 50)) drawn1) ∧
      drawn1.out.idleRedraw = true) :=
  ⟨⟨by rfl, by rfl, by rfl, by decide, by decide, by decide, by decide⟩, ⟨by rfl, by rfl, by rfl, by decide⟩⟩

/-- Both sides of the range of a 12-bit time. -/
theorem witness_FiniteWidthTimeAgreesBelowItsRange : (5 ≤ 4100 ∧ elapsed 4100 5 < 2 ^ 12) ∧
    (4 ≤ 4100 ∧ ¬ elapsed 4100 4 < 2 ^ 12) := by decide

end Sys2Proof.Tests
end

