-- ==== Sys2Proof/Proofs/Scope.lean ====
section
/-! PROOFS. The statements of 00_scope.md: what a step runs (R3, R109), and the refusal of an illegal configuration
(R6, R126). -/

namespace Sys2Proof.Machine

/-! ### The step -/

/-- The host's oldest operation is fetched with its own levels on the inputs. -/
theorem fetch_of_queue_cons {s : State} {x : Sample} {rest : List Sample} (h : s.queue = x :: rest) :
    s.fetch = (x.word, { s with queue := rest, pins := x.pins }) := by
  simp [State.fetch, h]

/-- With nothing pending the word of HOLD is fetched, and the inputs keep their levels (R109, assumption 7). -/
theorem fetch_of_queue_nil {s : State} (h : s.queue = []) : s.fetch = (encode .hold, s) := by
  simp [State.fetch, encode, h]

/-- Settles O1: each of the two cases of the fetch gives the word that is decoded and the state it runs in. -/
theorem stepRunsDecodedOperation : Obligations.StepRunsDecodedOperation := by
  unfold Obligations.StepRunsDecodedOperation
  refine ⟨fun s x rest h => ?_, fun s h => ?_⟩
  · rw [step, fetch_of_queue_cons h]
  · have hdec : decode (encode .hold) = .hold := by decide
    rw [step, fetch_of_queue_nil h, hdec]

/-! ### The legal ranges -/

/-- Every instruction is one guarded write, and TICK, EDGE_FALL and WIN00, which read NOW, are guarded by it too. -/
theorem exec_eq_guarded_or_guardedAtNow (i : Instr) (s : State) :
    (∃ t, exec i s = guarded s t) ∨ (∃ t, exec i s = guardedAtNow s t) := by
  cases i
  case tick => exact .inr ⟨_, rfl⟩
  case edgeFall => exact .inr ⟨_, rfl⟩
  case win00 => exact .inr ⟨_, rfl⟩
  all_goals exact .inl ⟨_, rfl⟩

/-- Every operation, RESET included, refuses an illegal configuration before any other check (R126, assumptions 12 and
24). -/
theorem exec_of_illegal {s : State} (h : s.cfg.legal = false) (i : Instr) : exec i s = .refused .illegalConfig := by
  obtain ⟨t, ht⟩ | ⟨t, ht⟩ := exec_eq_guarded_or_guardedAtNow i s
  · rw [ht]; exact guarded_eq_refused.2 (.inl ⟨h, rfl⟩)
  · rw [ht]; exact guardedAtNow_eq_refused.2 (.inl ⟨h, rfl⟩)

end Sys2Proof.Machine

namespace Sys2Proof

/-- A finite time width is at least 12 bits (R6). -/
theorem Config.timeWOk_iff {c : Config} : c.timeWOk = true ↔ ∀ w, c.timeW = some w → 12 ≤ w := by
  unfold Config.timeWOk
  cases c.timeW <;> simp

/-- The check of the configuration is the conjunction of R6's ranges. -/
theorem Config.legal_iff {c : Config} : c.legal = true ↔
    0 < c.timeUnitMs ∧ (∀ w, c.timeW = some w → 12 ≤ w) ∧ 1 ≤ c.volWin ∧ 1 ≤ c.ppWin ∧ 1 ≤ c.idleCadence ∧
    (1 ≤ c.volStep ∧ c.volStep ≤ 100) ∧ (1 ≤ c.hueStep ∧ c.hueStep ≤ 359) ∧ c.volReset ≤ 100 ∧ c.phaseReset ≤ 359 := by
  simp only [Config.legal, Bool.and_eq_true, decide_eq_true_eq, Config.timeUnit_pos_iff, Config.timeWOk_iff, and_assoc]

/-- Settles O14: the guard of every operation checks the configuration first, and its check is R6's ranges, the first of
which makes TIME_UNIT divide the duration of every count of it. -/
theorem illegalConfigurationIsRefused : Obligations.IllegalConfigurationIsRefused := by
  unfold Obligations.IllegalConfigurationIsRefused
  refine ⟨fun _ i h => Machine.exec_of_illegal h i, fun _ => Config.legal_iff, fun _ n h => ?_⟩
  obtain ⟨hunit, -⟩ := Config.legal_iff.1 h
  exact Config.duration_div_timeUnit hunit n

end Sys2Proof
end

/-! PROOFS. The statements of 10_state.md: the invariant of every step (R15, R21, R22, R52, R103, R106, R110, R126) and
the read-only configuration (R28). The invariant is proved unit by unit: TICK is a chain of the units' writes, and every
unit keeps the invariant once LAST_NOW stands at NOW, so the tick needs no case analysis of its own. -/

namespace Sys2Proof.Machine

/-! ### The fetch -/

/-- The fetch changes only what is pending and the levels on the inputs. -/
theorem fetch_snd (s : State) : ∃ q p, s.fetch.2 = { s with queue := q, pins := p } := by
  cases hq : s.queue with
  | nil => exact ⟨s.queue, s.pins, by rw [fetch_of_queue_nil hq]⟩
  | cons x rest => exact ⟨rest, x.pins, by rw [fetch_of_queue_cons hq]⟩

/-! ### What each write keeps -/

/-- The invariant speaks neither of the pending operations nor of the levels on the inputs. -/
theorem inv_fetch {s : State} (h : s.Inv) : s.fetch.2.Inv := by
  obtain ⟨q, p, hf⟩ := fetch_snd s
  exact hf ▸ { h with }

/-- LAST_NOW may move forward: what lies at or before it stays so (R110). -/
theorem inv_advance {s : State} (h : s.Inv) {n : Nat} (hn : s.lastNow ≤ n) : ({ s with lastNow := n } : State).Inv :=
  { h with
    togPast := fun hv => Nat.le_trans (h.togPast hv) hn
    volPast := fun hv => Nat.le_trans (h.volPast hv) hn
    idlePast := fun hv => Nat.le_trans (h.idlePast hv) hn }

/-- A timestamp that an event `e` loads with NOW: a bound of NOW and of the old valid value bounds the new valid one. -/
theorem stamp_le {e v : Bool} {now t bound : Nat} (ht : v = true → t ≤ bound) (hnow : e = true → now ≤ bound) :
    (e || v) = true → (if e then now else t) ≤ bound := by
  cases e with
  | true => exact fun _ => hnow rfl
  | false => exact ht

theorem inv_qdecWrite {s : State} (h : s.Inv) {code : BitVec 2} (hc : code ≠ 0b10#2) (cur : BitVec 2) :
    (qdecWrite code cur s).Inv :=
  { h with codes := reserved_eq_false.2 ⟨hc, (reserved_eq_false.1 h.codes).2⟩ }

theorem inv_volumePart {s : State} (h : s.Inv) (hn : s.pins.now ≤ s.lastNow) : (volumePart s).Inv :=
  { h with
    volRange := volNext_le s _ h.volRange
    volPast := stamp_le h.volPast fun _ => hn
    volPort := rfl
    oneVolCommand := by
      rw [volumePart_out_cmdVolInc, volumePart_out_cmdVolDec]
      by_cases hd : dirValue s.out.dir = 1
      · simp [hd]
      · simp [hd] }

theorem inv_swdetWrite {s : State} (h : s.Inv) {toggle : Bool} (hn : toggle = true → s.pins.now ≤ s.lastNow)
    (level : Bool) : (swdetWrite toggle level s).Inv :=
  { h with togPast := stamp_le h.togPast hn }

theorem inv_playPart {s : State} (h : s.Inv) : (playPart s).Inv := { h with playPort := rfl }

/-- ARB's write presents the phase before the redraw and stamps NOW only in Idle mode (R90, R95). -/
theorem inv_arbWrite {s : State} (h : s.Inv) {m : Mode} (hn : m = .idle → s.pins.now ≤ s.lastNow) :
    (arbWrite m s).Inv :=
  { h with
    codes := reserved_eq_false.2 ⟨(reserved_eq_false.1 h.codes).1, mode_code_ne_reserved m⟩
    phaseRange := by
      rw [arbWrite_phase]
      split
      · exact nextPhase_lt s
      · exact h.phaseRange
    phaseOutRange := h.phaseRange
    idlePast := stamp_le h.idlePast fun hr => by
      rw [Bool.and_eq_true, beq_iff_eq] at hr
      exact hn hr.1 }

/-- The reset values of VOL and PHASE fit their registers and ranges, since the configuration is legal (R6, R129). -/
theorem inv_resetWrite {s : State} (h : s.Inv) : (resetWrite s).Inv := by
  obtain ⟨-, -, -, -, -, -, -, hvol, hphase⟩ := Config.legal_iff.1 h.legal
  have hp : (BitVec.ofNat 9 s.cfg.phaseReset).toNat < 360 := by rw [BitVec.toNat_ofNat]; omega
  exact
    { legal := h.legal
      codes := rfl
      volRange := by rw [resetWrite_vol, BitVec.toNat_ofNat]; omega
      phaseRange := hp
      phaseOutRange := hp
      togPast := nofun
      volPast := nofun
      idlePast := nofun
      volPort := rfl
      playPort := rfl
      oneVolCommand := rfl }

theorem inv_hold {s : State} (h : s.Inv) : ({ s with out := s.out.hold, toggle := false } : State).Inv :=
  { h with
    codes := reserved_eq_false.2 ⟨by simp [Outputs.hold], (reserved_eq_false.1 h.codes).2⟩
    oneVolCommand := rfl }

/-- The five parts of a tick, one after the other (R37, R108). -/
theorem inv_tickWrite {s : State} (h : s.Inv) (hn : s.pins.now ≤ s.lastNow) : (tickWrite s).Inv := by
  have hqdec : (qdecStep s).Inv := inv_qdecWrite h (romRead_ne_reserved _ _) _
  have hvol : (volumePart (qdecStep s)).Inv := inv_volumePart hqdec hn
  have hswdet : (swdetStep (volumePart (qdecStep s))).Inv := inv_swdetWrite hvol (fun _ => hn) _
  have hplay : (playPart (swdetStep (volumePart (qdecStep s)))).Inv := inv_playPart hswdet
  exact inv_arbWrite hplay fun _ => hn

/-! ### The step -/

/-- Every instruction keeps the invariant. No unit's write reads or sets LAST_NOW, so an operation that reads NOW is its
write from the state with LAST_NOW already moved to NOW. -/
theorem inv_exec {i : Instr} {s t : State} (h : s.Inv) (ht : exec i s = .next t) : t.Inv := by
  obtain ⟨-, hcase⟩ := exec_cases ht
  rcases hcase with ⟨_, -, rfl⟩ | ⟨-, hn, rfl⟩ | ⟨-, rfl⟩ | ⟨-, c, u, hc, rfl⟩ | ⟨-, l, rfl⟩ | ⟨-, hn, rfl⟩ |
    ⟨-, m, hm, rfl⟩ | ⟨-, hn, rfl⟩
  · exact inv_resetWrite h
  · exact inv_tickWrite (inv_advance h hn) (Nat.le_refl _)
  · exact inv_hold h
  · exact inv_qdecWrite h hc u
  · exact inv_swdetWrite h (toggle := false) nofun l
  · exact inv_swdetWrite (inv_advance h hn) (fun _ => Nat.le_refl _) false
  · exact inv_arbWrite h fun hidle => absurd hidle hm
  · exact inv_arbWrite (inv_advance h hn) fun _ => Nat.le_refl _

/-- Settles O53: the fetch keeps the invariant, and so does whatever instruction is decoded. -/
theorem everyStepKeepsTheInvariant : Obligations.EveryStepKeepsTheInvariant := by
  unfold Obligations.EveryStepKeepsTheInvariant
  exact fun _ _ h ht => inv_exec (inv_fetch h) ht

/-- No instruction writes the configuration (R28). -/
theorem exec_cfg {i : Instr} {s t : State} (ht : exec i s = .next t) : t.cfg = s.cfg := by
  obtain ⟨-, hcase⟩ := exec_cases ht
  rcases hcase with ⟨_, -, rfl⟩ | ⟨-, -, rfl⟩ | ⟨-, rfl⟩ | ⟨-, c, u, -, rfl⟩ | ⟨-, l, rfl⟩ | ⟨-, -, rfl⟩ |
    ⟨-, m, -, rfl⟩ | ⟨-, -, rfl⟩
  · exact resetWrite_cfg s
  · exact tickWrite_cfg s
  · rfl
  · exact qdecWrite_cfg c u s
  · exact swdetWrite_cfg false l s
  · exact swdetWrite_cfg s.gate false s
  · exact arbWrite_cfg m s
  · exact arbWrite_cfg .idle s

/-- Settles O55: neither the fetch nor the instruction that is decoded writes the configuration. -/
theorem configurationNeverChanges : Obligations.ConfigurationNeverChanges := by
  unfold Obligations.ConfigurationNeverChanges
  intro s t ht
  obtain ⟨q, p, hf⟩ := fetch_snd s
  have hcfg : s.fetch.2.cfg = s.cfg := by rw [hf]
  exact (exec_cfg ht).trans hcfg

end Sys2Proof.Machine

/-! PROOFS. The statements of 20_memory.md: the decode ROM, the block's one address space (R29, R34), and the order of
the units within one tick (R37). -/

namespace Sys2Proof

/-! ### The decode ROM -/

/-- The ROM occupies the addresses 0 to 15, in rising order (R34). -/
theorem romImage_addresses (p : Polarity) : (romImage p).map Prod.fst = List.range 16 := by
  cases p <;> decide

/-- A read at any key finds an entry of the ROM, never the default (R32, R33). -/
theorem romRead_mem_romImage (p : Polarity) : ∀ k : BitVec 4, (k.toNat, romRead p k) ∈ romImage p := by
  cases p <;> decide

/-- Four keys step one way, four the other and eight neither; the polarities swap the two senses (R44, R45). -/
theorem romImage_code_counts (p : Polarity) :
    (romImage p).countP (·.2 == 0b01#2) = 4 ∧ (romImage p).countP (·.2 == 0b11#2) = 4 ∧
    (romImage p).countP (·.2 == 0b00#2) = 8 := by
  cases p <;> decide

/-- Settles O22: the ROM's addresses, its reads and the counts of its codes, each read off its contents under the two
polarities. -/
theorem romHoldsSixteenCodes : Obligations.RomHoldsSixteenCodes := by
  unfold Obligations.RomHoldsSixteenCodes
  exact fun p => ⟨romImage_addresses p, romRead_mem_romImage p, romImage_code_counts p⟩

namespace Machine

/-! ### The units of a tick leave a state that can be run

The volume part, SWDET and the play part write none of what `canTick` reads, so for them it holds by computation. -/

/-- QDEC drives a code of the ROM, which is never reserved (R128). -/
theorem canTick_qdecStep {s : State} (h : s.canTick = true) : (qdecStep s).canTick = true := by
  obtain ⟨hr, hnow⟩ := canTick_iff.1 h
  obtain ⟨hlegal, hcodes⟩ : s.cfg.legal = true ∧ s.out.reserved = false := by simpa [State.runnable] using hr
  have hcodes' : (qdecStep s).out.reserved = false :=
    reserved_eq_false.2 ⟨romRead_ne_reserved _ _, (reserved_eq_false.1 hcodes).2⟩
  have hr' : (qdecStep s).runnable = true := by
    rw [State.runnable, hcodes', Bool.not_false, Bool.and_true]
    exact hlegal
  exact canTick_iff.2 ⟨hr', hnow⟩

theorem canTick_volumePart (s : State) : (volumePart s).canTick = s.canTick := rfl

theorem canTick_swdetStep (s : State) : (swdetStep s).canTick = s.canTick := rfl

theorem canTick_playPart (s : State) : (playPart s).canTick = s.canTick := rfl

/-- LAST_NOW may stand anywhere up to NOW (R110). -/
theorem canTick_withLastNow {s : State} (h : s.canTick = true) {n : Nat} (hn : n ≤ s.pins.now) :
    ({ s with lastNow := n } : State).canTick = true := by
  obtain ⟨hr, -⟩ := canTick_iff.1 h
  exact canTick_iff.2 ⟨hr, hn⟩

/-! ### The selected entries, up to LAST_NOW

EDGE_FALL and WIN00 read NOW and so move LAST_NOW, the other edge and window entries leave it (assumption 10). No unit
reads it, so what a tick's entries leave differs from the tick's own result in LAST_NOW at most. -/

theorem exec_sedge_upToLastNow {s : State} (h : s.canTick = true) :
    ∃ n ≤ s.pins.now, exec (decode (.sedge s.edgeCode)) s = .next { swdetStep s with lastNow := n } := by
  obtain ⟨-, hnow⟩ := canTick_iff.1 h
  obtain hkept | hmoved := exec_sedge h
  · exact ⟨s.lastNow, hnow, hkept⟩
  · exact ⟨s.pins.now, Nat.le_refl _, hmoved⟩

theorem exec_awin_upToLastNow {s : State} (h : s.canTick = true) :
    ∃ n, exec (decode (.awin s.windowVector)) s = .next { arbStep s with lastNow := n } := by
  obtain hkept | hmoved := exec_awin h
  · exact ⟨s.lastNow, hkept⟩
  · exact ⟨s.pins.now, hmoved⟩

/-- Settles O11: each selected entry is its unit's part of the tick, up to LAST_NOW, and can be run where the parts
before it leave the state; the tick sets LAST_NOW at its end whatever the entries left there. -/
theorem tickRunsTheSelectedEntries : Obligations.TickRunsTheSelectedEntries := by
  unfold Obligations.TickRunsTheSelectedEntries
  intro s h
  have hkey : exec (decode (.qkey s.key)) s = .next (qdecStep s) :=
    (exec_qkey s.prev s.pins.cur s).trans (guarded_of_runnable (canTick_iff.1 h).1 _)
  have hvol : (volumePart (qdecStep s)).canTick = true :=
    (canTick_volumePart _).trans (canTick_qdecStep h)
  obtain ⟨n, hn, hedge⟩ := exec_sedge_upToLastNow hvol
  have hplay : (playPart { swdetStep (volumePart (qdecStep s)) with lastNow := n }).canTick = true :=
    (canTick_playPart _).trans (canTick_withLastNow ((canTick_swdetStep _).trans hvol) hn)
  obtain ⟨m, hwin⟩ := exec_awin_upToLastNow hplay
  exact ⟨_, _, _, hkey, hedge, hwin, exec_tick_of_canTick h⟩

end Machine

end Sys2Proof

/-! PROOFS. The statements of 30_encoding.md: the decoder and the encoder of the four spaces (R45 to R48, R52), the
reserved output codes (R52, R128), the key entries (R45, R63 to R78), and the lines of a program (R54, R55). -/

namespace Sys2Proof

/-! ### The decoder and the encoder -/

/-- No instruction loses a bit of its word: RESET keeps the TICK bit that it ignores (R48). -/
theorem decode_encode (i : Instr) : decode (encode i) = i := by
  cases i
  case reset t => cases t <;> rfl
  all_goals rfl

/-- No two words of a space decode alike. -/
theorem encode_decode (w : Word) : encode (decode w) = w := by
  have hctrl : ∀ w : BitVec 2, encode (decode (.ctrl w)) = .ctrl w := by decide
  have hqkey : ∀ k : BitVec 4, encode (decode (.qkey k)) = .qkey k := by decide
  have hsedge : ∀ e : BitVec 2, encode (decode (.sedge e)) = .sedge e := by decide
  have hawin : ∀ w : BitVec 2, encode (decode (.awin w)) = .awin w := by decide
  cases w with
  | ctrl w => exact hctrl w
  | qkey k => exact hqkey k
  | sedge e => exact hsedge e
  | awin w => exact hawin w

/-- Settles O4: both directions, the one by the instruction and the other by the space of the word. -/
theorem decodeAndEncodeAreInverse : Obligations.DecodeAndEncodeAreInverse := by
  unfold Obligations.DecodeAndEncodeAreInverse
  exact ⟨fun i _ => decode_encode i, encode_decode⟩

/-- Settles O2: each word is the one that its instruction is encoded as. -/
theorem wordsOfEachSpaceDecode : Obligations.WordsOfEachSpaceDecode := by
  unfold Obligations.WordsOfEachSpaceDecode
  exact ⟨decode_encode (.reset false), decode_encode (.reset true), decode_encode .tick, decode_encode .hold,
    decode_encode .key1, decode_encode .key2, decode_encode .key13, decode_encode .key14,
    decode_encode .edgeRise, decode_encode .edgeFall, decode_encode .win10, decode_encode .win01⟩

/-- The word of every instruction is in the opcode table once, at the instruction's own row. -/
theorem encode_inTable : ∀ i : Instr, Laws.InTable.Statement i
  | .reset t => Laws.InTable.reset t
  | .tick => Laws.InTable.tick
  | .hold => Laws.InTable.hold
  | .key0 => Laws.InTable.key0
  | .key1 => Laws.InTable.key1
  | .key2 => Laws.InTable.key2
  | .key3 => Laws.InTable.key3
  | .key4 => Laws.InTable.key4
  | .key5 => Laws.InTable.key5
  | .key6 => Laws.InTable.key6
  | .key7 => Laws.InTable.key7
  | .key8 => Laws.InTable.key8
  | .key9 => Laws.InTable.key9
  | .key10 => Laws.InTable.key10
  | .key11 => Laws.InTable.key11
  | .key12 => Laws.InTable.key12
  | .key13 => Laws.InTable.key13
  | .key14 => Laws.InTable.key14
  | .key15 => Laws.InTable.key15
  | .edgeHeld => Laws.InTable.edgeHeld
  | .edgeRise => Laws.InTable.edgeRise
  | .edgeFall => Laws.InTable.edgeFall
  | .edgeIdle => Laws.InTable.edgeIdle
  | .win11 => Laws.InTable.win11
  | .win10 => Laws.InTable.win10
  | .win01 => Laws.InTable.win01
  | .win00 => Laws.InTable.win00

/-- Settles O3: every word is the word of the instruction it decodes to, and that one is in the table once. -/
theorem everyWordMatchesOneTableRow : Obligations.EveryWordMatchesOneTableRow := by
  unfold Obligations.EveryWordMatchesOneTableRow
  intro w
  obtain ⟨hone, hown⟩ := encode_inTable (decode w)
  rw [encode_decode w] at hone hown
  obtain ⟨r, hr⟩ := List.length_eq_one_iff.1 hone
  exact ⟨r, hr, hown r (hr ▸ List.mem_singleton_self r)⟩

namespace Machine

/-- RESET's effect does not depend on the TICK bit beside RST (R48). -/
theorem exec_reset (t : Bool) (s : State) : exec (.reset t) s = guarded s (resetWrite s) := rfl

/-- Settles O7: the four values of CTRL are the words of RESET, TICK and HOLD, and RESET ignores the TICK bit. -/
theorem controlWordSelectsOperation : Obligations.ControlWordSelectsOperation := by
  unfold Obligations.ControlWordSelectsOperation
  exact ⟨fun t => decode_encode (.reset t), decode_encode .tick, decode_encode .hold,
    fun s => (exec_reset true s).trans (exec_reset false s).symm⟩

/-! ### The reserved output codes -/

/-- An operation runs only where the outputs hold no reserved code (R128). -/
theorem reserved_of_runnable {s : State} (h : s.runnable = true) : s.out.reserved = false := by
  simp only [State.runnable, Bool.and_eq_true, Bool.not_eq_true'] at h
  exact h.2

/-- No operation produces a reserved code: a unit drives DIR or MODE with a legal code and keeps the other's (R52). -/
theorem exec_not_reserved {i : Instr} {s t : State} (ht : exec i s = .next t) :
    t.out.dir ≠ 0b10#2 ∧ t.out.mode ≠ 0b11#2 := by
  obtain ⟨hr, hcase⟩ := exec_cases ht
  obtain ⟨hdir, hmode⟩ := reserved_eq_false.1 (reserved_of_runnable hr)
  rcases hcase with ⟨_, -, rfl⟩ | ⟨-, -, rfl⟩ | ⟨-, rfl⟩ | ⟨-, c, u, hc, rfl⟩ | ⟨-, l, rfl⟩ | ⟨-, -, rfl⟩ |
    ⟨-, m, -, rfl⟩ | ⟨-, -, rfl⟩
  · exact reserved_eq_false.1 rfl
  · exact ⟨romRead_ne_reserved _ _, mode_code_ne_reserved _⟩
  · exact ⟨(by decide : 0b00#2 ≠ 0b10#2), hmode⟩
  · exact ⟨hc, hmode⟩
  · exact ⟨hdir, hmode⟩
  · exact ⟨hdir, hmode⟩
  · exact ⟨hdir, mode_code_ne_reserved m⟩
  · exact ⟨hdir, mode_code_ne_reserved .idle⟩

/-- Every operation, RESET included, refuses a reserved code before it looks at NOW (R128, assumptions 13 and 24). -/
theorem exec_of_reserved {s : State} (hlegal : s.cfg.legal = true) (hcodes : s.out.reserved = true) (i : Instr) :
    exec i s = .refused .reservedOutputCode := by
  obtain ⟨t, ht⟩ | ⟨t, ht⟩ := exec_eq_guarded_or_guardedAtNow i s
  · rw [ht]; exact guarded_eq_refused.2 (.inr ⟨hlegal, hcodes, rfl⟩)
  · rw [ht]; exact guardedAtNow_eq_refused.2 (.inr (.inl ⟨hlegal, hcodes, rfl⟩))

/-- Settles O15: what each operation can write, and the guard of every operation. -/
theorem reservedCodesAreNeverProducedAndRefused : Obligations.ReservedCodesAreNeverProducedAndRefused := by
  unfold Obligations.ReservedCodesAreNeverProducedAndRefused
  refine ⟨fun _ _ _ ht => exec_not_reserved ht, fun s i hlegal hcode => exec_of_reserved hlegal ?_ i⟩
  rwa [Outputs.reserved, Bool.or_eq_true, beq_iff_eq, beq_iff_eq]

/-! ### The key entries -/

/-- One Gray position forward is a clockwise step under CLK_LEADS_CW, and the other way under DT_LEADS_CW (R57, R58). -/
theorem romRead_of_forward : ∀ (p : Polarity) (a b : BitVec 2), grayMove a b = 1 →
    romRead p (Sys2Proof.key a b) = if p = .clkLeadsCw then 0b01#2 else 0b11#2 := by
  intro p; cases p <;> decide

/-- One Gray position back is the opposite step (R57, R58). -/
theorem romRead_of_backward : ∀ (p : Polarity) (a b : BitVec 2), grayMove a b = -1 →
    romRead p (Sys2Proof.key a b) = if p = .clkLeadsCw then 0b11#2 else 0b01#2 := by
  intro p; cases p <;> decide

/-- The entry of a key drives DIR with the ROM's code at the key, loads PREV with the key's new pair, and changes nothing
else. -/
theorem exec_qkey_of_runnable {s : State} (h : s.runnable = true) {p c code : BitVec 2}
    (hcode : romRead s.cfg.polarity (Sys2Proof.key p c) = code) :
    exec (decode (.qkey (Sys2Proof.key p c))) s
      = .next { s with prev := c, out := { s.out with dir := code } } := by
  rw [exec_qkey, hcode]
  exact guarded_of_runnable h _

/-- Settles O16: each entry is that of its old and its new pair. No line or both changed is no step, and with one line
changed the Gray position moved gives the code. -/
theorem keyEntriesDriveDirAndLoadPrev : Obligations.KeyEntriesDriveDirAndLoadPrev := by
  unfold Obligations.KeyEntriesDriveDirAndLoadPrev
  intro s h leaves cw ccw
  have still (p c : BitVec 2) (hx : p ^^^ c = 0b00#2 ∨ p ^^^ c = 0b11#2) :
      exec (decode (.qkey (Sys2Proof.key p c))) s = .next (leaves c 0b00#2) :=
    exec_qkey_of_runnable h (romRead_of_no_step _ p c hx)
  have forward (p c : BitVec 2) (hm : grayMove p c = 1) :
      exec (decode (.qkey (Sys2Proof.key p c))) s = .next (leaves c cw) :=
    exec_qkey_of_runnable h (romRead_of_forward _ p c hm)
  have backward (p c : BitVec 2) (hm : grayMove p c = -1) :
      exec (decode (.qkey (Sys2Proof.key p c))) s = .next (leaves c ccw) :=
    exec_qkey_of_runnable h (romRead_of_backward _ p c hm)
  refine ⟨?_, ?_, ?_, ?_⟩
  · exact ⟨still 0b00#2 0b00#2 (.inl rfl), backward 0b00#2 0b01#2 rfl,
      forward 0b00#2 0b10#2 rfl, still 0b00#2 0b11#2 (.inr rfl)⟩
  · exact ⟨forward 0b01#2 0b00#2 rfl, still 0b01#2 0b01#2 (.inl rfl),
      still 0b01#2 0b10#2 (.inr rfl), backward 0b01#2 0b11#2 rfl⟩
  · exact ⟨backward 0b10#2 0b00#2 rfl, still 0b10#2 0b01#2 (.inr rfl),
      still 0b10#2 0b10#2 (.inl rfl), forward 0b10#2 0b11#2 rfl⟩
  · exact ⟨still 0b11#2 0b00#2 (.inr rfl), forward 0b11#2 0b01#2 rfl,
      backward 0b11#2 0b10#2 rfl, still 0b11#2 0b11#2 (.inl rfl)⟩

/-! ### The encoded form of a line -/

@[simp] theorem charBit_bitChar (b : Bool) : charBit (bitChar b) = some b := by cases b <;> rfl

theorem charDigit_digitChar : ∀ d < 10, charDigit (digitChar d) = some d := by decide

/-- The number that a digit written after a number gives. -/
def pushDigit (n d : Nat) : Nat := n * 10 + d

/-- The reader pushes one digit after the other, the most significant first. -/
theorem readDigits_map_digitChar (ds : List Nat) (hds : ∀ d ∈ ds, d < 10) (acc : Nat) :
    readDigits acc (ds.map digitChar) = some (ds.foldl pushDigit acc) := by
  induction ds generalizing acc with
  | nil => rfl
  | cons d ds ih =>
    obtain ⟨hd, hrest⟩ := List.forall_mem_cons.1 hds
    rw [List.map_cons, readDigits, charDigit_digitChar d hd]
    exact ih hrest _

theorem digitsRev_lt_ten (fuel n : Nat) : ∀ d ∈ digitsRev fuel n, d < 10 := by
  induction fuel generalizing n with
  | zero => exact fun d hd => absurd hd List.not_mem_nil
  | succ fuel ih =>
    rw [digitsRev]
    split
    next hn => exact List.forall_mem_singleton.2 hn
    next => exact List.forall_mem_cons.2 ⟨Nat.mod_lt _ (by decide), ih (n / 10)⟩

/-- With fuel above the number no digit is lost. -/
theorem foldl_reverse_digitsRev {fuel n : Nat} (h : n < fuel) : (digitsRev fuel n).reverse.foldl pushDigit 0 = n := by
  induction fuel generalizing n with
  | zero => exact absurd h (Nat.not_lt_zero n)
  | succ fuel ih =>
    rw [digitsRev]
    split
    next =>
      have hone : 0 * 10 + n = n := by omega
      exact hone
    next hn =>
      have hfuel : n / 10 < fuel := by omega
      rw [List.reverse_cons, List.foldl_append, ih hfuel]
      exact Nat.div_add_mod' n 10

/-- The decimal form of a number reads back as the number. -/
theorem readDigits_decimal (n : Nat) : readDigits 0 (decimal n) = some n := by
  have hlt : ∀ d ∈ (digitsRev (n + 1) n).reverse, d < 10 :=
    fun d hd => digitsRev_lt_ten _ _ d (List.mem_reverse.1 hd)
  rw [decimal, readDigits_map_digitChar _ hlt, foldl_reverse_digitsRev (Nat.lt_succ_self n)]

/-- A number has at least one digit. -/
theorem decimal_ne_nil (n : Nat) : decimal n ≠ [] := by
  have hdigits : digitsRev (n + 1) n ≠ [] := by
    rw [digitsRev]
    split <;> exact List.cons_ne_nil _ _
  rwa [decimal, ne_eq, List.map_eq_nil_iff, List.reverse_eq_nil_iff]

/-- The reader on three binary digits, `@` and a non-empty rest: a tick line with the number that the rest stands for. -/
theorem decode_tickLine {now : Nat} {cs : List Char} (clk dt sw : Bool) (hne : cs ≠ [])
    (hcs : readDigits 0 cs = some now) :
    Op.decode (bitChar clk :: bitChar dt :: bitChar sw :: '@' :: cs) = some (.tick clk dt sw now) := by
  cases cs with
  | nil => exact absurd rfl hne
  | cons d ds => simp only [Op.decode, charBit_bitChar, hcs]

/-- Settles O5: RESET and HOLD are letters of their own, and a tick line's three bits and its time read back. -/
theorem encodedLineReadsBack : Obligations.EncodedLineReadsBack := by
  unfold Obligations.EncodedLineReadsBack
  intro o
  cases o with
  | reset => rfl
  | hold => rfl
  | tick clk dt sw now => exact decode_tickLine clk dt sw (decimal_ne_nil now) (readDigits_decimal now)

/-! ### The pseudo-instructions -/

/-- A tick line's fields replace what is copied, any other line leaves it (R55). -/
theorem after_eq_fields_getD (c : Copied) (o : Op) : c.after o = o.fields.getD c := by
  cases o <;> rfl

/-- What is copied after a sequence of operations is the fields of its last tick line, or the start's with none. -/
theorem foldl_after (os : List Op) (c : Copied) :
    os.foldl Copied.after c = (os.reverse.findSome? Op.fields).getD c := by
  induction os generalizing c with
  | nil => rfl
  | cons o os ih =>
    rw [List.foldl_cons, ih, after_eq_fields_getD, List.reverse_cons, List.findSome?_append, List.findSome?_singleton,
      Option.getD_or]

/-- The last line of a program expands with what the operations before it leave to copy. -/
theorem expandFrom_concat (c : Copied) (ls : List Line) (l : Line) :
    expandFrom c (ls ++ [l]) = expandFrom c ls ++ [l.expand ((expandFrom c ls).foldl Copied.after c)] := by
  induction ls generalizing c with
  | nil => rfl
  | cons l' ls ih => rw [List.cons_append, expandFrom, ih]; rfl

/-- One more line is one more operation, which copies the nearest earlier tick line (R55). -/
theorem expand_concat (ls : List Line) (l : Line) :
    expand (ls ++ [l]) = expand ls ++ [l.expand (nearestTick (expand ls))] := by
  rw [expand, expandFrom_concat, foldl_after]
  rfl

/-- Settles O6: the last line is expanded with the nearest earlier tick line, whatever the line is. -/
theorem pseudoInstructionsCopyNearestTick : Obligations.PseudoInstructionsCopyNearestTick := by
  unfold Obligations.PseudoInstructionsCopyNearestTick
  intro ls t a b c
  exact ⟨expand_concat ls (.wait t), expand_concat ls (.press t), expand_concat ls (.release t),
    expand_concat ls (.pins a b t), fun o => expand_concat ls (.op o), rfl, rfl⟩

end Machine

end Sys2Proof

/-! PROOFS. The statements of 40_qdec.md: the ROM against its closed form and the Gray positions (R57, R58), the QDEC step
of one tick (R56, R61 to R78), and the count over a run of ticks (R59, R60). A run is brought down to the pairs its ticks
sample: what DIR adds up to is the Gray positions moved along them, and the rest is about lists of pairs. -/

namespace Sys2Proof

/-! ### Keys and their classes -/

theorem key_eq_append : ∀ p c : BitVec 2, key p c = p ++ c := by decide

theorem key_keyPrev_keyCur : ∀ k : BitVec 4, key (keyPrev k) (keyCur k) = k := by decide

theorem keyClass_key_eq_noChange : ∀ {a b : BitVec 2}, keyClass (key a b) = .noChange ↔ a = b := by decide

theorem keyClass_key_eq_double : ∀ {a b : BitVec 2}, keyClass (key a b) = .double ↔ a ^^^ b = 0b11#2 := by decide

theorem keyClass_key_eq_single : ∀ {a b : BitVec 2},
    keyClass (key a b) = .single ↔ a ^^^ b = 0b01#2 ∨ a ^^^ b = 0b10#2 := by decide

/-! ### The closed form of the ROM -/

/-- With one line changed, PREV's low bit against CUR's high bit gives the sense of the step (R57). -/
theorem romRead_of_changed_line (p : Polarity) :
    ∀ k : BitVec 4, ¬(keyPrev k ^^^ keyCur k = 0b00#2 ∨ keyPrev k ^^^ keyCur k = 0b11#2) →
      romRead p k = if p.sign * (if (k.getLsbD 2 ^^ k.getLsbD 1) then 1 else -1) = 1 then 0b01#2 else 0b11#2 := by
  cases p <;> decide

/-- Settles O21: no line or both changed is no step, and with one line changed the code is that of R57's parity. -/
theorem romIsTheClosedForm : Obligations.RomIsTheClosedForm := by
  unfold Obligations.RomIsTheClosedForm
  intro p k
  split
  next hx => exact key_keyPrev_keyCur k ▸ romRead_of_no_step p (keyPrev k) (keyCur k) hx
  next hx => exact romRead_of_changed_line p k hx

/-- A step's code is not that of no step. -/
theorem romRead_ne_zero_of_step (p : Polarity) {a b : BitVec 2} (h : a ^^^ b = 0b01#2 ∨ a ^^^ b = 0b10#2) :
    romRead p (key a b) ≠ 0b00#2 := by
  obtain hr | hr := romRead_of_step p a b h <;> rw [hr] <;> decide

namespace Machine

/-! ### The Gray positions -/

/-- The ROM's direction is the Gray move in the polarity's sense, at every key (R58). -/
theorem dirValue_romRead_key (p : Polarity) :
    ∀ a b : BitVec 2, dirValue (romRead p (Sys2Proof.key a b)) = p.sign * grayMove a b := by
  cases p <;> decide

theorem gray_sub_emod_eq_two : ∀ {a b : BitVec 2},
    (gray b - gray a) % 4 = 2 ↔ keyClass (Sys2Proof.key a b) = .double := by decide

theorem grayMove_self (a : BitVec 2) : grayMove a a = 0 := by simp [grayMove]

/-- A transition and the one back cancel; both of a DOUBLE key count 0. -/
theorem grayMove_swap (a b : BitVec 2) : grayMove b a = -grayMove a b := by
  unfold grayMove
  split <;> split <;> omega

/-- The Gray move is the difference of the positions modulo 4, but for a DOUBLE key, which counts 0 for 2 (R58, R59). -/
theorem grayMove_emod (a b : BitVec 2) :
    (grayMove a b - (gray b - gray a) - 2 * ((if keyClass (Sys2Proof.key a b) = .double then 1 else 0 : Nat) : Int)) %
      4 = 0 := by
  by_cases hdouble : keyClass (Sys2Proof.key a b) = .double
  · have htwo := gray_sub_emod_eq_two.2 hdouble
    rw [if_pos hdouble, grayMove, if_neg (by omega), if_neg (by omega)]
    omega
  · have hnot := mt gray_sub_emod_eq_two.1 hdouble
    rw [if_neg hdouble, grayMove]
    split
    · omega
    · split <;> omega

theorem grayMove_emod_of_single {a b : BitVec 2} (h : keyClass (Sys2Proof.key a b) = .single) :
    (grayMove a b - (gray b - gray a)) % 4 = 0 := by
  have hmove := grayMove_emod a b
  have hnot : keyClass (Sys2Proof.key a b) ≠ .double := by rw [h]; decide
  rw [if_neg hnot] at hmove
  omega

/-- Settles O23: the ROM's direction is the Gray move, which a SINGLE key makes exactly modulo 4. -/
theorem romFollowsGrayPositions : Obligations.RomFollowsGrayPositions := by
  unfold Obligations.RomFollowsGrayPositions
  refine ⟨rfl, rfl, rfl, rfl, fun p a b => ⟨fun hs => ?_, gray_sub_emod_eq_two.2, fun hn => ?_⟩⟩
  · rw [dirValue_romRead_key, ← Int.mul_sub]
    exact Int.emod_eq_zero_of_dvd (Int.dvd_mul_of_dvd_right (Int.dvd_of_emod_eq_zero (grayMove_emod_of_single hs)))
  · rw [keyClass_key_eq_noChange.1 hn, Int.sub_self]

/-! ### The QDEC step of one tick -/

/-- What QDEC does in a tick, as the tick leaves it: no later part writes DIR or PREV (R56). -/
theorem exec_tick_qdec {s t : State} (h : exec .tick s = .next t) :
    t.cfg = s.cfg ∧ t.prev = s.pins.cur ∧ t.out.dir = romRead s.cfg.polarity (Sys2Proof.key s.prev s.pins.cur) := by
  obtain ⟨-, rfl⟩ := guardedAtNow_eq_next.1 h
  exact ⟨rfl, rfl, rfl⟩

/-- A tick that can run has a next state, which drives the ROM's code and loads PREV (R56). -/
theorem exec_tick_reads_rom {s : State} (h : s.canTick = true) :
    ∃ t, exec .tick s = .next t ∧ t.out.dir = romRead s.cfg.polarity (Sys2Proof.key s.prev s.pins.cur) ∧
      t.prev = s.pins.cur := by
  have ht := exec_tick_of_canTick h
  obtain ⟨-, hprev, hdir⟩ := exec_tick_qdec ht
  exact ⟨_, ht, hdir, hprev⟩

/-- After a tick another can run at any NOW that is not before the first (R110, R113). -/
theorem canTick_after_tick {s t : State} (h : exec .tick s = .next t) {p : Pins} (hp : s.pins.now ≤ p.now) :
    ({ t with pins := p } : State).canTick = true := by
  obtain ⟨hc, rfl⟩ := guardedAtNow_eq_next.1 h
  exact canTick_iff.2 ⟨runnable_tickWrite (canTick_iff.1 hc).1 p _, hp⟩

/-- Settles O20: the key is the pair PREV above the pair CUR. -/
theorem tickReadsRomAtKey : Obligations.TickReadsRomAtKey := by
  unfold Obligations.TickReadsRomAtKey
  intro s h
  rw [← key_eq_append]
  exact exec_tick_reads_rom h

/-- Settles O27: both ticks read the ROM at one key, and load one pair. -/
theorem qdecReadsOnlyPrevAndCur : Obligations.QdecReadsOnlyPrevAndCur := by
  unfold Obligations.QdecReadsOnlyPrevAndCur
  intro s₁ s₂ h₁ h₂ hpol hprev hclk hdt
  obtain ⟨t₁, ht₁, hdir₁, hprev₁⟩ := exec_tick_reads_rom h₁
  obtain ⟨t₂, ht₂, hdir₂, hprev₂⟩ := exec_tick_reads_rom h₂
  have hcur : s₁.pins.cur = s₂.pins.cur := by rw [Pins.cur, hclk, hdt, Pins.cur]
  exact ⟨t₁, t₂, ht₁, ht₂, by rw [hdir₁, hdir₂, hpol, hprev, hcur], by rw [hprev₁, hprev₂, hcur]⟩

theorem grayMove_of_forward_key : ∀ {a b : BitVec 2}, Sys2Proof.key a b = 2#4 ∨ Sys2Proof.key a b = 4#4 ∨
    Sys2Proof.key a b = 11#4 ∨ Sys2Proof.key a b = 13#4 → grayMove a b = 1 := by decide

theorem grayMove_of_backward_key : ∀ {a b : BitVec 2}, Sys2Proof.key a b = 1#4 ∨ Sys2Proof.key a b = 7#4 ∨
    Sys2Proof.key a b = 8#4 ∨ Sys2Proof.key a b = 14#4 → grayMove a b = -1 := by decide

/-- Settles O19: the first four keys are one Gray position forward, the other four one back. -/
theorem singleTickIsOneStep : Obligations.SingleTickIsOneStep := by
  unfold Obligations.SingleTickIsOneStep
  intro s h k
  obtain ⟨t, ht, hdir, hprev⟩ := exec_tick_reads_rom h
  exact ⟨fun hk => ⟨t, ht, hprev, hdir.trans (romRead_of_forward _ _ _ (grayMove_of_forward_key hk))⟩,
    fun hk => ⟨t, ht, hprev, hdir.trans (romRead_of_backward _ _ _ (grayMove_of_backward_key hk))⟩⟩

/-! ### A tick that is no step -/

/-- A tick whose direction is 0 is no volume event (R101). -/
theorem tickVolEvt_of_tickDir_zero {s : State} (h : s.tickDir = 0) : s.tickVolEvt = false := by
  simp [State.tickVolEvt, State.volEvent, h]

/-- A tick with no line or both changed: DIR 0b00, PREV the new pair, and nothing of the volume part's (R63, R66). -/
theorem exec_tick_of_no_step {s : State} (h : s.canTick = true)
    (hx : s.prev ^^^ s.pins.cur = 0b00#2 ∨ s.prev ^^^ s.pins.cur = 0b11#2) :
    ∃ t, exec .tick s = .next t ∧ t.out.dir = 0b00#2 ∧ t.prev = s.pins.cur ∧
      t.vol = s.vol ∧ t.vVol = s.vVol ∧ t.tVol = s.tVol ∧
      t.out.cmdVolInc = false ∧ t.out.cmdVolDec = false ∧ t.out.volRedraw = false := by
  have hrom : romRead s.cfg.polarity s.key = 0b00#2 := romRead_of_no_step _ _ _ hx
  have hdir : s.tickDir = 0 := by rw [State.tickDir, hrom, dirValue_zero]
  have hevt := tickVolEvt_of_tickDir_zero hdir
  refine ⟨_, exec_tick_of_canTick h, hrom, rfl, ?_⟩
  simp [hdir, hevt, volNext_zero, State.tickVVol, State.tickTVol]

/-- Settles O17: PREV takes the new pair, which is its own value. -/
theorem noChangeTickIsNoStep : Obligations.NoChangeTickIsNoStep := by
  unfold Obligations.NoChangeTickIsNoStep
  intro s h hsame
  have hx : s.prev ^^^ s.pins.cur = 0b00#2 := by rw [← hsame, BitVec.xor_self]
  simpa only [← hsame] using exec_tick_of_no_step h (.inl hx)

/-- Settles O18: the tick is no step, and the next one reads the ROM at the key of one changed line. -/
theorem doubleTickIsNoStep : Obligations.DoubleTickIsNoStep := by
  unfold Obligations.DoubleTickIsNoStep
  intro s h hx
  obtain ⟨t, ht, hdir, hprev, hvol, hvVol, htVol, hinc, hdec, hredraw⟩ := exec_tick_of_no_step h (.inr hx)
  refine ⟨t, ht, hdir, hprev, hvol, hvVol, htVol, hinc, hdec, hredraw, fun p hone hp => ?_⟩
  obtain ⟨hcfg, -, -⟩ := exec_tick_qdec ht
  obtain ⟨u, hu, hdir', hprev'⟩ := exec_tick_reads_rom (canTick_after_tick ht hp)
  rw [hcfg] at hdir'
  exact ⟨u, hu, hdir', hdir' ▸ romRead_ne_zero_of_step _ hone, hprev'⟩

/-! ### QDEC over the operations of a run -/

theorem applyOp_tick_qdec {s t : State} {p : Pins} (h : applyOp (tickAt p) s = .next t) :
    t.cfg = s.cfg ∧ t.prev = p.cur ∧ t.out.dir = romRead s.cfg.polarity (Sys2Proof.key s.prev p.cur) :=
  exec_tick_qdec (applyOp_tickAt p s ▸ h)

/-- Settles O26: each tick leaves PREV its own pair, which the key of the next tick has for its old one. -/
theorem decoderRecoversAfterDoubleTick : Obligations.DecoderRecoversAfterDoubleTick := by
  unfold Obligations.DecoderRecoversAfterDoubleTick
  intro s s₁ s₂ p q h₁ h₂
  obtain ⟨hcfg₁, hprev₁, hdir₁⟩ := applyOp_tick_qdec h₁
  obtain ⟨-, hprev₂, hdir₂⟩ := applyOp_tick_qdec h₂
  rw [hcfg₁, hprev₁] at hdir₂
  refine ⟨hprev₁, hprev₂, hdir₂, fun hdouble => ⟨?_, fun hsingle => ?_⟩⟩
  · exact hdir₁.trans (romRead_of_no_step _ _ _ (.inr (keyClass_key_eq_double.1 hdouble)))
  · exact hdir₂ ▸ romRead_ne_zero_of_step _ (keyClass_key_eq_single.1 hsingle)

/-- An operation that is no RESET is a TICK, which decodes one key, or a HOLD, which samples nothing (R56, R109). -/
theorem applyOp_noReset_qdec {x : Sample} {s t : State} (hx : x.noReset = true) (h : applyOp x s = .next t) :
    t.cfg = s.cfg ∧
    ((∃ p, x = tickAt p ∧ t.prev = p.cur ∧ dirValue t.out.dir = s.cfg.polarity.sign * grayMove s.prev p.cur) ∨
     (∃ p, x = holdAt p ∧ t.prev = s.prev ∧ dirValue t.out.dir = 0)) := by
  obtain ⟨htick, -, rfl⟩ | ⟨hhold, rfl⟩ := applyOp_noReset hx h
  · exact ⟨rfl, .inl ⟨x.pins, htick, rfl, dirValue_romRead_key _ _ _⟩⟩
  · exact ⟨rfl, .inr ⟨x.pins, hhold, rfl, dirValue_zero⟩⟩

/-- The directions of a run add up to the Gray positions moved along its ticks, in the polarity's sense, DOUBLE ticks or
not (R59); and PREV ends at the pair of the last tick. -/
theorem run_qdec {xs : List Sample} {s t : State} (hxs : ∀ x ∈ xs, x.noReset = true) (h : runOps xs s = .next t) :
    dirSum (observe xs s) = s.cfg.polarity.sign * grayMoves s.prev (tickPairs xs) ∧
    (s.prev :: tickPairs xs).getLast? = some t.prev := by
  induction xs generalizing s with
  | nil =>
    cases h
    exact ⟨(Int.mul_zero _).symm, rfl⟩
  | cons x xs ih =>
    obtain ⟨hx, hrest⟩ := List.forall_mem_cons.1 hxs
    obtain ⟨u, hu, hrun, hobs⟩ := runOps_cons h
    obtain ⟨hsum, hlast⟩ := ih hrest hrun
    obtain ⟨hcfg, ⟨p, rfl, hprev, hdir⟩ | ⟨p, rfl, hprev, hdir⟩⟩ := applyOp_noReset_qdec hx hu
    · rw [hprev] at hsum hlast
      rw [hobs, dirSum_cons, hdir, hsum, hcfg, tickPairs_cons_tick, grayMoves, Int.mul_add, List.getLast?_cons_cons]
      exact ⟨rfl, hlast⟩
    · rw [hprev] at hsum hlast
      rw [hobs, dirSum_cons, hdir, hsum, hcfg, tickPairs_cons_hold, Int.zero_add]
      exact ⟨rfl, hlast⟩

/-! ### Moves along a sequence of pairs -/

/-- Modulo 4 the moves from the first pair of a sequence to its last are the difference of their positions, and 2 for each
DOUBLE key on the way (R59). -/
theorem grayMoves_emod {a e : BitVec 2} {bs : List (BitVec 2)} (h : (a :: bs).getLast? = some e) :
    (grayMoves a bs - (gray e - gray a) - 2 * (doubles a bs : Int)) % 4 = 0 := by
  induction bs generalizing a with
  | nil =>
    obtain rfl : a = e := Option.some.inj h
    rw [grayMoves, doubles, Int.sub_self]
    rfl
  | cons b bs ih =>
    rw [List.getLast?_cons_cons] at h
    have hrest := ih h
    have hfirst := grayMove_emod a b
    rw [grayMoves, doubles, Int.natCast_add]
    omega

/-- Between two pairs the moves telescope: each is the change of the distance from the one pair (R60). -/
theorem grayMove_between {a b c d : BitVec 2} (hc : c = a ∨ c = b) (hd : d = a ∨ d = b) :
    grayMove c d = grayMove a d - grayMove a c := by
  rcases hc with rfl | rfl
  · rw [grayMove_self, Int.sub_zero]
  · rcases hd with rfl | rfl
    · rw [grayMove_self, Int.zero_sub, grayMove_swap]
    · rw [grayMove_self, Int.sub_self]

theorem grayMoves_between {a b c e : BitVec 2} {ds : List (BitVec 2)} (hc : c = a ∨ c = b)
    (hds : ∀ d ∈ ds, d = a ∨ d = b) (h : (c :: ds).getLast? = some e) :
    grayMoves c ds = grayMove a e - grayMove a c := by
  induction ds generalizing c with
  | nil =>
    cases h
    exact (Int.sub_self _).symm
  | cons d ds ih =>
    obtain ⟨hd, hrest⟩ := List.forall_mem_cons.1 hds
    rw [List.getLast?_cons_cons] at h
    rw [grayMoves, ih hd hrest h, grayMove_between hc hd]
    omega

/-! ### The count over a run -/

/-- Settles O24: the sum is the polarity's sign times the moves, and modulo 4 the sign makes no difference to a 2. -/
theorem netCountLaw : Obligations.NetCountLaw := by
  unfold Obligations.NetCountLaw
  intro xs s t hxs h sum pairs
  obtain ⟨hsum, hlast⟩ := run_qdec hxs h
  have hmoves := grayMoves_emod hlast
  have hlaw : (sum - (s.cfg.polarity.sign * (gray t.prev - gray s.prev) + 2 * (doubles s.prev pairs : Int))) % 4 = 0 := by
    simp only [sum, pairs, hsum]
    cases s.cfg.polarity <;> simp only [Polarity.sign] <;> omega
  refine ⟨hlaw, hlast, fun hnone => ⟨hsum, fun hback => ?_⟩⟩
  rw [hnone, hback, Int.sub_self, Int.mul_zero] at hlaw
  omega

theorem noReset_map_tickAt (ps : List Pins) : ∀ x ∈ ps.map tickAt, x.noReset = true :=
  List.forall_mem_map.2 fun _ _ => rfl

theorem tickPairs_map_tickAt (ps : List Pins) : tickPairs (ps.map tickAt) = ps.map Pins.cur := by
  induction ps with
  | nil => rfl
  | cons p ps ih => rw [List.map_cons, tickPairs_cons_tick, ih, List.map_cons]

/-- Settles O25: the count is the move from the first pair to the last, whatever the line did between. -/
theorem singleLineBounceCountsNetStep : Obligations.SingleLineBounceCountsNetStep := by
  unfold Obligations.SingleLineBounceCountsNetStep
  intro ps s t b h hps _
  obtain ⟨hsum, hlast⟩ := run_qdec (noReset_map_tickAt ps) h
  rw [tickPairs_map_tickAt] at hsum hlast
  have hnet : dirSum (observe (ps.map tickAt) s) = s.cfg.polarity.sign * grayMove s.prev t.prev := by
    rw [hsum, grayMoves_between (.inl rfl) (List.forall_mem_map.2 hps) hlast, grayMove_self, Int.sub_zero]
  refine ⟨fun hback => ?_, fun hover => ?_⟩
  · rw [hnet, hback, grayMove_self, Int.mul_zero]
  · rw [hnet, hover, dirValue_romRead_key]

end Machine

end Sys2Proof

/-! PROOFS. The statements of 41_swdet.md: the edge entries (R81 to R84), SWDET in every tick (R79, R80, R88), and what
the debounce gate gives and does not give over a run of TICKs and HOLDs (R85 to R87). -/

namespace Sys2Proof.Machine

/-! ### The edge entries -/

/-- The entry of an edge that is no falling one loads LAST_LVL and records nothing. -/
theorem swdetWrite_false (level : Bool) (s : State) :
    swdetWrite false level s = { s with toggle := false, lastLvl := level } := rfl

/-- Settles O29: each of the three entries is SWDET's write without a toggle, at its own level. -/
theorem edgesWithoutTogglesLoadTheLevel : Obligations.EdgesWithoutTogglesLoadTheLevel := by
  unfold Obligations.EdgesWithoutTogglesLoadTheLevel
  intro s h
  rw [← swdetWrite_false false s, ← swdetWrite_false true s]
  exact ⟨guarded_of_runnable h _, guarded_of_runnable h _, guarded_of_runnable h _⟩

/-- The gate in the spelling of R79. -/
theorem gate_eq (s : State) :
    s.gate = (s.vTog == false || decide (s.pins.now - s.tTog > s.cfg.debounce)) := by
  rw [State.gate, beq_false]

/-- Settles O30: EDGE_FALL is SWDET's write with the gate as the toggle, and LAST_NOW at NOW. -/
theorem fallingEdgeTogglesWhenGatePasses : Obligations.FallingEdgeTogglesWhenGatePasses := by
  unfold Obligations.FallingEdgeTogglesWhenGatePasses
  intro s h
  have hfall : exec .edgeFall s = .next { swdetWrite s.gate false s with lastNow := s.pins.now } :=
    guardedAtNow_of_canTick h _
  rw [hfall, ← gate_eq]
  cases s.gate <;> rfl

/-! ### SWDET in every tick -/

/-- A tick's toggle is a falling edge that passes the gate (R80). -/
theorem tickToggle_eq_true {s : State} :
    s.tickToggle = true ↔ s.lastLvl = true ∧ s.pins.sw = false ∧ s.gate = true := by
  have hfall : ∀ lvl sw : Bool, bits2 lvl sw = 0b10#2 ↔ lvl = true ∧ sw = false := by decide
  rw [State.tickToggle, State.edgeCode, Bool.and_eq_true, beq_iff_eq, hfall, and_assoc]

/-- The toggle is a function of SWDET's registers, SW, NOW and DEBOUNCE (R88). -/
theorem tickToggle_congr {s₁ s₂ : State} (hdeb : s₁.cfg.debounce = s₂.cfg.debounce) (hlvl : s₁.lastLvl = s₂.lastLvl)
    (hv : s₁.vTog = s₂.vTog) (ht : s₁.tTog = s₂.tTog) (hsw : s₁.pins.sw = s₂.pins.sw)
    (hnow : s₁.pins.now = s₂.pins.now) : s₁.tickToggle = s₂.tickToggle := by
  rw [Bool.eq_iff_iff, tickToggle_eq_true, tickToggle_eq_true, gate_eq_true, gate_eq_true, hdeb, hlvl, hv, ht, hsw, hnow]

/-- Settles O31: the whole tick leaves in SWDET's registers what its one write of them gives. -/
theorem tickDetectsDebouncedPress : Obligations.TickDetectsDebouncedPress := by
  unfold Obligations.TickDetectsDebouncedPress
  intro s h gate toggle
  have htoggle : s.tickToggle = toggle := by rw [State.tickToggle, gate_eq]; rfl
  refine ⟨_, exec_tick_of_canTick h, htoggle, htoggle, rfl, ?_, ?_⟩
  · rw [← htoggle]; rfl
  · rw [← htoggle]
    change (s.tickToggle || s.vTog) = _
    cases s.tickToggle <;> rfl

/-- Settles O35: the two ticks agree on the toggle, and SWDET's registers take it, NOW or SW, or stay. -/
theorem swdetReadsOnlyItsOwnRegisters : Obligations.SwdetReadsOnlyItsOwnRegisters := by
  unfold Obligations.SwdetReadsOnlyItsOwnRegisters
  intro s₁ s₂ h₁ h₂ hdeb hlvl hv ht hsw hnow
  have htoggle := tickToggle_congr hdeb hlvl hv ht hsw hnow
  refine ⟨_, _, exec_tick_of_canTick h₁, exec_tick_of_canTick h₂, htoggle, hsw, ?_, ?_⟩
  · change s₁.tickTTog = s₂.tickTTog
    rw [State.tickTTog, State.tickTTog, htoggle, hnow, ht]
  · change s₁.tickVTog = s₂.tickVTog
    rw [State.tickVTog, State.tickVTog, htoggle, hv]

/-! ### SWDET over the operations of a run -/

/-- What a TICK at the levels `p` does from `s` to `t` as far as SWDET and the play part go, in terms of the strobe that
shows the toggle (R79, R80, R102, R110). -/
structure SwdetTick (s : State) (p : Pins) (t : State) : Prop where
  cfg : t.cfg = s.cfg
  lastNow_le : s.lastNow ≤ p.now
  lastNow : t.lastNow = p.now
  toggle_iff : t.out.cmdPpToggle = true ↔
    s.lastLvl = true ∧ p.sw = false ∧ (s.vTog = false ∨ s.cfg.debounce < p.now - s.tTog)
  lastLvl : t.lastLvl = p.sw
  vTog : t.vTog = (t.out.cmdPpToggle || s.vTog)
  tTog : t.tTog = if t.out.cmdPpToggle then p.now else s.tTog
  play : t.play = (t.out.cmdPpToggle ^^ s.play)

theorem swdetTick_of_applyOp {s t : State} {p : Pins} (h : applyOp (tickAt p) s = .next t) : SwdetTick s p t := by
  obtain ⟨hc, rfl⟩ := applyOp_tick h
  obtain ⟨-, hnow⟩ := canTick_iff.1 hc
  have htoggle := tickToggle_eq_true (s := s.atPins p)
  rw [gate_eq_true] at htoggle
  exact ⟨rfl, hnow, rfl, htoggle, rfl, rfl, rfl, rfl⟩

/-- What SWDET and the play part have in the state stands still, and no toggle shows: a HOLD (R109). -/
structure SwdetHold (s t : State) : Prop where
  cfg : t.cfg = s.cfg
  lastNow : t.lastNow = s.lastNow
  noToggle : t.out.cmdPpToggle = false
  lastLvl : t.lastLvl = s.lastLvl
  vTog : t.vTog = s.vTog
  tTog : t.tTog = s.tTog
  play : t.play = s.play

/-- An operation that is no RESET is a TICK or a HOLD to SWDET. -/
theorem applyOp_noReset_swdet {x : Sample} {s t : State} (hx : x.noReset = true) (h : applyOp x s = .next t) :
    (x = tickAt x.pins ∧ SwdetTick s x.pins t) ∨ SwdetHold s t := by
  obtain ⟨htick, -⟩ | ⟨-, rfl⟩ := applyOp_noReset hx h
  · exact .inl ⟨htick, swdetTick_of_applyOp (htick ▸ h)⟩
  · exact .inr ⟨rfl, rfl, rfl, rfl, rfl, rfl, rfl⟩

/-- A property that holds at the start of a run and is kept by each of its operations holds at its end. Of an operation
one may use that its outputs are among those observed. -/
theorem runOps_keeps {P : State → Prop} {xs : List Sample} {s t : State} (h : runOps xs s = .next t)
    (hstep : ∀ x ∈ xs, ∀ u v, applyOp x u = .next v → v.out ∈ observe xs s → P u → P v) (hs : P s) : P t := by
  induction xs generalizing s with
  | nil => cases h; exact hs
  | cons x xs ih =>
    obtain ⟨u, hu, hrun, hobs⟩ := runOps_cons h
    rw [hobs] at hstep
    obtain ⟨hfirst, hrest⟩ := List.forall_mem_cons.1 hstep
    exact ih hrun (fun y hy v w hw ho => hrest y hy v w hw (List.mem_cons_of_mem _ ho))
      (hfirst s u hu List.mem_cons_self hs)

/-- No run writes the configuration (R28). -/
theorem runOps_cfg {xs : List Sample} {s t : State} (h : runOps xs s = .next t) : t.cfg = s.cfg :=
  runOps_keeps (P := (·.cfg = s.cfg)) h (fun x _ u _ hv _ hu => (exec_cfg (s := u.atPins x.pins) hv).trans hu) rfl

/-! ### Toggles are more than DEBOUNCE apart -/

/-- A toggle has been accepted, the last one at `n` or later, and time has reached `n`. -/
structure State.ToggledSince (s : State) (n : Nat) : Prop where
  valid : s.vTog = true
  stamp : n ≤ s.tTog
  past : n ≤ s.lastNow

theorem toggledSince_of_toggle {s t : State} {p : Pins} (h : SwdetTick s p t) (htoggle : t.out.cmdPpToggle = true) :
    t.ToggledSince p.now where
  valid := by rw [h.vTog, htoggle, Bool.true_or]
  stamp := by
    have hstamp : t.tTog = p.now := by rw [h.tTog, if_pos htoggle]
    exact Nat.le_of_eq hstamp.symm
  past := Nat.le_of_eq h.lastNow.symm

/-- Without a RESET the last toggle only gets later: time does not go backwards (R110). -/
theorem toggledSince_applyOp {x : Sample} {s t : State} {n : Nat} (hx : x.noReset = true)
    (h : applyOp x s = .next t) (hs : s.ToggledSince n) : t.ToggledSince n := by
  obtain ⟨-, htick⟩ | hhold := applyOp_noReset_swdet hx h
  · have hn : n ≤ x.pins.now := Nat.le_trans hs.past htick.lastNow_le
    refine ⟨by rw [htick.vTog, hs.valid, Bool.or_true], ?_, htick.lastNow ▸ hn⟩
    rw [htick.tTog]
    split
    · exact hn
    · exact hs.stamp
  · exact ⟨hhold.vTog ▸ hs.valid, hhold.tTog ▸ hs.stamp, hhold.lastNow ▸ hs.past⟩

/-- Settles O32: at the second toggle the gate compares with a timestamp that is valid and no older than the first. -/
theorem togglesAreMoreThanDebounceApart : Obligations.TogglesAreMoreThanDebounceApart := by
  unfold Obligations.TogglesAreMoreThanDebounceApart
  intro s s₁ s₂ s₃ p q xs hxs h₁ htoggle₁ hrun h₂ htoggle₂
  have hfirst := swdetTick_of_applyOp h₁
  have hsince : s₂.ToggledSince p.now :=
    runOps_keeps (P := (State.ToggledSince · p.now)) hrun
      (fun x hx _ _ hv _ hu => toggledSince_applyOp (hxs x hx) hv hu) (toggledSince_of_toggle hfirst htoggle₁)
  obtain ⟨-, -, hinvalid | hgate⟩ := (swdetTick_of_applyOp h₂).toggle_iff.1 htoggle₂
  · exact absurd (hinvalid.symm.trans hsince.valid) Bool.false_ne_true
  · rw [runOps_cfg hrun, hfirst.cfg] at hgate
    exact Nat.lt_of_lt_of_le hgate (Nat.sub_le_sub_left hsince.stamp _)

/-! ### A held press -/

/-- With LAST_LVL at 0 there is no falling edge, whatever SW is. -/
theorem noToggle_of_lastLvl_false {s t : State} {p : Pins} (h : SwdetTick s p t) (hlvl : s.lastLvl = false) :
    t.out.cmdPpToggle = false :=
  Bool.eq_false_iff.2 fun htoggle => by
    obtain ⟨hhigh, -⟩ := h.toggle_iff.1 htoggle
    exact Bool.false_ne_true (hlvl.symm.trans hhigh)

/-- A run whose ticks all sample SW = 0, from LAST_LVL at 0: it stays 0, and no tick toggles (R86). -/
theorem run_of_held_press {xs : List Sample} {s t : State} (hxs : ∀ x ∈ xs, x.noReset = true)
    (hheld : ∀ p : Pins, tickAt p ∈ xs → p.sw = false) (hlvl : s.lastLvl = false) (h : runOps xs s = .next t) :
    t.lastLvl = false ∧ ∀ o ∈ observe xs s, o.cmdPpToggle = false := by
  induction xs generalizing s with
  | nil =>
    cases h
    exact ⟨hlvl, fun o ho => absurd ho List.not_mem_nil⟩
  | cons x xs ih =>
    obtain ⟨hx, hrest⟩ := List.forall_mem_cons.1 hxs
    obtain ⟨u, hu, hrun, hobs⟩ := runOps_cons h
    obtain ⟨hlow, hfirst⟩ : u.lastLvl = false ∧ u.out.cmdPpToggle = false := by
      obtain ⟨hxtick, htick⟩ | hhold := applyOp_noReset_swdet hx hu
      · exact ⟨htick.lastLvl.trans (hheld _ (hxtick ▸ List.mem_cons_self)), noToggle_of_lastLvl_false htick hlvl⟩
      · exact ⟨hhold.lastLvl.trans hlvl, hhold.noToggle⟩
    obtain ⟨hlvl', hquiet⟩ := ih hrest (fun p hp => hheld p (List.mem_cons_of_mem _ hp)) hlow hrun
    exact ⟨hlvl', hobs ▸ List.forall_mem_cons.2 ⟨hfirst, hquiet⟩⟩

/-- Settles O33: a tick loads LAST_LVL with SW, and while it is 0 there is no falling edge. -/
theorem heldPressNeverToggles : Obligations.HeldPressNeverToggles := by
  unfold Obligations.HeldPressNeverToggles
  refine ⟨fun s t p h hsw => (swdetTick_of_applyOp h).lastLvl.trans hsw, fun xs s t hxs hheld hlvl h => ?_⟩
  obtain ⟨hlvl', hquiet⟩ := run_of_held_press hxs hheld hlvl h
  exact ⟨hlvl', hquiet, fun q u hu _ => noToggle_of_lastLvl_false (swdetTick_of_applyOp hu) hlvl'⟩

/-! ### A release bounce -/

/-- Between the two states there was no toggle: DEBOUNCE, T_TOG and PLAY are the same. -/
structure NoToggleBetween (s t : State) : Prop where
  cfg : t.cfg = s.cfg
  tTog : t.tTog = s.tTog
  play : t.play = s.play

theorem NoToggleBetween.trans {s t u : State} (h₁ : NoToggleBetween s t) (h₂ : NoToggleBetween t u) :
    NoToggleBetween s u :=
  ⟨h₂.cfg.trans h₁.cfg, h₂.tTog.trans h₁.tTog, h₂.play.trans h₁.play⟩

theorem noToggleBetween_of_tick {s t : State} {p : Pins} (h : SwdetTick s p t) (hquiet : t.out.cmdPpToggle = false) :
    NoToggleBetween s t where
  cfg := h.cfg
  tTog := by rw [h.tTog, hquiet]; rfl
  play := by rw [h.play, hquiet, Bool.false_xor]

theorem noToggleBetween_applyOp {x : Sample} {s t : State} (hx : x.noReset = true) (h : applyOp x s = .next t)
    (hquiet : t.out.cmdPpToggle = false) : NoToggleBetween s t := by
  obtain ⟨-, htick⟩ | hhold := applyOp_noReset_swdet hx h
  · exact noToggleBetween_of_tick htick hquiet
  · exact ⟨hhold.cfg, hhold.tTog, hhold.play⟩

/-- Settles O34: until the sample of 0 nothing moves T_TOG or PLAY, so the gate measures from the press, and the second
toggle undoes the first. -/
theorem releaseBounceTogglesAgain : Obligations.ReleaseBounceTogglesAgain := by
  unfold Obligations.ReleaseBounceTogglesAgain
  intro s s₁ s₂ s₃ s₄ p q r xs hxs h₁ htoggle₁ hrun hquiet hlvl h₃ hq h₄ hr hlong
  have hpress := swdetTick_of_applyOp h₁
  have hrise := swdetTick_of_applyOp h₃
  have hfall := swdetTick_of_applyOp h₄
  have hquiet₃ := noToggle_of_lastLvl_false hrise hlvl
  have hheld : NoToggleBetween s₁ s₂ :=
    runOps_keeps hrun (fun x hx _ _ hv ho hu => hu.trans (noToggleBetween_applyOp (hxs x hx) hv (hquiet _ ho)))
      ⟨rfl, rfl, rfl⟩
  have hstill : NoToggleBetween s₁ s₃ := hheld.trans (noToggleBetween_of_tick hrise hquiet₃)
  have hstamp : s₃.tTog = p.now := by rw [hstill.tTog, hpress.tTog, if_pos htoggle₁]
  have hgate : s₃.cfg.debounce < r.now - s₃.tTog := by rwa [hstill.cfg, hpress.cfg, hstamp]
  have htoggle₄ : s₄.out.cmdPpToggle = true := hfall.toggle_iff.2 ⟨hrise.lastLvl.trans hq, hr, .inr hgate⟩
  refine ⟨hquiet₃, htoggle₄, ?_⟩
  rw [hfall.play, htoggle₄, hstill.play, hpress.play, htoggle₁, Bool.true_xor, Bool.true_xor, Bool.not_not]

end Sys2Proof.Machine

/-! PROOFS. The statements of 42_arbiter.md: the window entries (R91 to R94), the arbiter in every tick (R89, R90, R95,
R99), and what the windows and the idle generator do over a run of TICKs and HOLDs (R96 to R98). -/

namespace Sys2Proof.Machine

/-! ### The window entries -/

/-- In a mode that is not Idle the idle generator stands still (R95). -/
theorem arbWrite_of_ne_idle {m : Mode} (hm : m ≠ .idle) (s : State) :
    arbWrite m s = { s with out := { s.out with mode := m.code, phaseOut := s.phase, idleRedraw := false } } := by
  have hidle : (m == .idle) = false := beq_eq_false_iff_ne.2 hm
  simp [arbWrite, hidle]

/-- Settles O36: each of the three entries is ARB's write in a mode that is not Idle. -/
theorem openWindowsSelectTheirMode : Obligations.OpenWindowsSelectTheirMode := by
  unfold Obligations.OpenWindowsSelectTheirMode
  intro s h
  have hvol := arbWrite_of_ne_idle (m := .volume) (by decide) s
  have hpp := arbWrite_of_ne_idle (m := .playPause) (by decide) s
  exact ⟨hvol ▸ guarded_of_runnable h _, hvol ▸ guarded_of_runnable h _, hpp ▸ guarded_of_runnable h _⟩

/-- The cadence gate in the spelling of R95. -/
theorem idleDue_eq (s : State) :
    s.idleDue = (s.vIdle == false || decide (s.pins.now - s.tIdle ≥ s.cfg.idleCadence)) := by
  rw [State.idleDue, beq_false]

/-- Settles O37: WIN00 is ARB's write in Idle mode, where the cadence gate alone decides, and LAST_NOW at NOW. -/
theorem closedWindowsSelectIdleAndRedraw : Obligations.ClosedWindowsSelectIdleAndRedraw := by
  unfold Obligations.ClosedWindowsSelectIdleAndRedraw
  intro s h
  have hwin : exec .win00 s = .next { arbWrite .idle s with lastNow := s.pins.now } := guardedAtNow_of_canTick h _
  rw [hwin, ← idleDue_eq, arbWrite]
  cases s.idleDue <;> rfl

/-! ### The windows and the multiplexer -/

/-- A window at a time: its timestamp is valid and less than its length ago (R89). -/
def windowOpen (valid : Bool) (stamp win now : Nat) : Bool := valid && decide (elapsed now stamp < win)

theorem windowOpen_eq_true {valid : Bool} {stamp win now : Nat} :
    windowOpen valid stamp win now = true ↔ valid = true ∧ now - stamp < win := by simp [windowOpen]

theorem windowOpen_eq_false {valid : Bool} {stamp win now : Nat} :
    windowOpen valid stamp win now = false ↔ (valid = true → win ≤ now - stamp) := by simp [windowOpen]

/-- A window that is still open was open before: without an event it only closes (R96). -/
theorem windowOpen_of_later {valid : Bool} {stamp win n m : Nat} (hnm : n ≤ m)
    (h : windowOpen valid stamp win m = true) : windowOpen valid stamp win n = true := by
  obtain ⟨hvalid, hlt⟩ := windowOpen_eq_true.1 h
  exact windowOpen_eq_true.2 ⟨hvalid, Nat.lt_of_le_of_lt (Nat.sub_le_sub_right hnm _) hlt⟩

theorem muxMode_code (v w : Bool) :
    (muxMode v w).code = if v then 0b01#2 else if w then 0b10#2 else 0b00#2 := by
  cases v <;> cases w <;> rfl

theorem muxMode_eq_idle : ∀ {v w : Bool}, muxMode v w = .idle ↔ v = false ∧ w = false := by decide

theorem muxMode_ne_idle : ∀ {v w : Bool}, muxMode v w ≠ .idle ↔ v = true ∨ w = true := by decide

/-- Fewer open windows give no higher mode (R90). -/
theorem modeRank_muxMode_mono : ∀ {v w v' w' : Bool}, (v' = true → v = true) → (w' = true → w = true) →
    modeRank (muxMode v' w').code ≤ modeRank (muxMode v w).code := by decide

theorem mode_code_eq_idle {m : Mode} : m.code = 0b00#2 ↔ m = .idle := by cases m <;> decide

/-- The mode that a state's timestamps give at a time (R89, R90). -/
def State.modeAt (s : State) (now : Nat) : Mode :=
  muxMode (windowOpen s.vVol s.tVol s.cfg.volWin now) (windowOpen s.vTog s.tTog s.cfg.ppWin now)

/-- While the timestamps stand, the mode only moves down as time goes on (R96). -/
theorem modeRank_modeAt_antitone (s : State) {n m : Nat} (hnm : n ≤ m) :
    modeRank (s.modeAt m).code ≤ modeRank (s.modeAt n).code :=
  modeRank_muxMode_mono (windowOpen_of_later hnm) (windowOpen_of_later hnm)

/-! ### ARB in every tick -/

/-- What a TICK at the levels `p` does from `s` to `t` as far as ARB goes, in terms of the strobes that show the events:
the timestamps it sees, the mode, and the idle generator (R80, R89, R90, R95, R101, R110). -/
structure ArbTick (s : State) (p : Pins) (t : State) : Prop where
  cfg : t.cfg = s.cfg
  lastNow_le : s.lastNow ≤ p.now
  lastNow : t.lastNow = p.now
  vVol : t.vVol = (t.out.volRedraw || s.vVol)
  tVol : t.tVol = if t.out.volRedraw then p.now else s.tVol
  vTog : t.vTog = (t.out.cmdPpToggle || s.vTog)
  tTog : t.tTog = if t.out.cmdPpToggle then p.now else s.tTog
  mode : t.out.mode = (t.modeAt p.now).code
  redraw_iff : t.out.idleRedraw = true ↔
    t.modeAt p.now = .idle ∧ (s.vIdle = false ∨ s.cfg.idleCadence ≤ p.now - s.tIdle)
  phaseOut : t.out.phaseOut = s.phase
  phase : t.phase = if t.out.idleRedraw then s.nextPhase else s.phase
  vIdle : t.vIdle = (t.out.idleRedraw || s.vIdle)
  tIdle : t.tIdle = if t.out.idleRedraw then p.now else s.tIdle

theorem arbTick_of_exec {s t : State} (h : exec .tick s = .next t) : ArbTick s s.pins t := by
  obtain ⟨hc, rfl⟩ := guardedAtNow_eq_next.1 h
  obtain ⟨-, hnow⟩ := canTick_iff.1 hc
  have hredraw : s.tickRedraw = true ↔
      s.tickMode = .idle ∧ (s.vIdle = false ∨ s.cfg.idleCadence ≤ s.pins.now - s.tIdle) := by
    rw [State.tickRedraw, Bool.and_eq_true, beq_iff_eq, idleDue_eq_true]
  exact ⟨rfl, hnow, rfl, rfl, rfl, rfl, rfl, rfl, hredraw, rfl, rfl, rfl, rfl⟩

theorem arbTick_of_applyOp {s t : State} {p : Pins} (h : applyOp (tickAt p) s = .next t) : ArbTick s p t :=
  { arbTick_of_exec (s := s.atPins p) h with }

/-- In Volume and PlayPause mode the idle generator does not redraw (R95). -/
theorem ArbTick.noRedraw_of_mode {s t : State} {p : Pins} (h : ArbTick s p t) (hmode : t.out.mode ≠ 0b00#2) :
    t.out.idleRedraw = false :=
  Bool.eq_false_iff.2 fun hredraw => by
    obtain ⟨hidle, -⟩ := h.redraw_iff.1 hredraw
    exact hmode (h.mode.trans (mode_code_eq_idle.2 hidle))

/-- Settles O38: the mode is the multiplexer's, on the windows over the timestamps that the tick leaves. -/
theorem tickSelectsModeByPriority : Obligations.TickSelectsModeByPriority := by
  unfold Obligations.TickSelectsModeByPriority
  intro s h
  have ht := exec_tick_of_canTick h
  exact ⟨_, ht, (arbTick_of_exec ht).mode.trans (muxMode_code _ _)⟩

/-- Settles O39: the redraw strobe is the condition of R95, and the three registers of the idle generator follow it. -/
theorem idleGeneratorRedrawsAtCadence : Obligations.IdleGeneratorRedrawsAtCadence := by
  unfold Obligations.IdleGeneratorRedrawsAtCadence
  intro s h
  have ht := exec_tick_of_canTick h
  have harb := arbTick_of_exec ht
  refine ⟨_, ht, harb.phaseOut, ?_, fun hredraw => ?_, fun hfrozen => ?_⟩
  · rw [← idleDue_eq, Bool.eq_iff_iff, harb.redraw_iff, Bool.and_eq_true, beq_iff_eq, harb.mode, mode_code_eq_idle,
      idleDue_eq_true]
  · rw [harb.phase, harb.tIdle, harb.vIdle, hredraw]
    exact ⟨toNat_nextPhase s, rfl, rfl⟩
  · rw [harb.phase, harb.tIdle, harb.vIdle, hfrozen]
    exact ⟨rfl, rfl, rfl⟩

/-- A tick that shows a volume event drives a step on DIR (R101). -/
theorem dir_ne_zero_of_tickVolEvt {s : State} (h : s.tickVolEvt = true) : romRead s.cfg.polarity s.key ≠ 0b00#2 := by
  intro hrom
  have hdir : s.tickDir = 0 := by rw [State.tickDir, hrom, dirValue_zero]
  exact Bool.false_ne_true ((tickVolEvt_of_tickDir_zero hdir).symm.trans h)

/-- Settles O45: VOL_REDRAW is the tick's own volume event, PP_REDRAW its own toggle, and IDLE_REDRAW is Idle mode's. -/
theorem windowsOnlySuppressIdleRedraw : Obligations.WindowsOnlySuppressIdleRedraw := by
  unfold Obligations.WindowsOnlySuppressIdleRedraw
  intro s h
  have ht := exec_tick_of_canTick h
  refine ⟨_, ht, fun hevt => ?_, fun hpp => ?_, (arbTick_of_exec ht).noRedraw_of_mode⟩
  · exact ⟨if_pos hevt, Bool.or_eq_true_iff.2 (.inl hevt), dir_ne_zero_of_tickVolEvt hevt⟩
  · have htoggle : s.tickToggle = true := hpp
    exact ⟨if_pos htoggle, Bool.or_eq_true_iff.2 (.inl htoggle), htoggle⟩

/-! ### The mode over a run without events -/

/-- From `s` to `t` there was no volume event and no toggle: the timestamps stand, time has not gone backwards, and the
mode shown is still the old one, or what the timestamps give at some time since. -/
structure NoEventBetween (s t : State) : Prop where
  cfg : t.cfg = s.cfg
  lastNow : s.lastNow ≤ t.lastNow
  vVol : t.vVol = s.vVol
  tVol : t.tVol = s.tVol
  vTog : t.vTog = s.vTog
  tTog : t.tTog = s.tTog
  mode : t.out.mode = s.out.mode ∨ ∃ n, s.lastNow ≤ n ∧ t.out.mode = (s.modeAt n).code

/-- The same timestamps give the same mode at every time. -/
theorem NoEventBetween.modeAt_eq {s t : State} (h : NoEventBetween s t) (n : Nat) : t.modeAt n = s.modeAt n := by
  rw [State.modeAt, h.cfg, h.vVol, h.tVol, h.vTog, h.tTog, State.modeAt]

theorem NoEventBetween.trans {s t u : State} (h₁ : NoEventBetween s t) (h₂ : NoEventBetween t u) :
    NoEventBetween s u where
  cfg := h₂.cfg.trans h₁.cfg
  lastNow := Nat.le_trans h₁.lastNow h₂.lastNow
  vVol := h₂.vVol.trans h₁.vVol
  tVol := h₂.tVol.trans h₁.tVol
  vTog := h₂.vTog.trans h₁.vTog
  tTog := h₂.tTog.trans h₁.tTog
  mode := by
    obtain hkept | ⟨n, hn, hmode⟩ := h₂.mode
    · rw [hkept]; exact h₁.mode
    · exact .inr ⟨n, Nat.le_trans h₁.lastNow hn, by rw [hmode, h₁.modeAt_eq]⟩

/-- A tick's outputs are quiet when neither event strobe is asserted (R96). -/
theorem quiet_eq_true {o : Outputs} : o.quiet = true ↔ o.volRedraw = false ∧ o.cmdPpToggle = false := by
  simp [Outputs.quiet]

/-- A tick without an event shows the mode that the old timestamps give at its NOW. -/
theorem ArbTick.mode_of_quiet {s t : State} {p : Pins} (h : ArbTick s p t) (hquiet : t.out.quiet = true) :
    t.out.mode = (s.modeAt p.now).code := by
  obtain ⟨hvol, htoggle⟩ := quiet_eq_true.1 hquiet
  rw [h.mode, State.modeAt, h.cfg, h.vVol, h.tVol, h.vTog, h.tTog, hvol, htoggle]
  rfl

theorem noEventBetween_of_tick {s t : State} {p : Pins} (h : ArbTick s p t) (hquiet : t.out.quiet = true) :
    NoEventBetween s t := by
  obtain ⟨hvol, htoggle⟩ := quiet_eq_true.1 hquiet
  exact
    { cfg := h.cfg
      lastNow := h.lastNow ▸ h.lastNow_le
      vVol := by rw [h.vVol, hvol, Bool.false_or]
      tVol := by rw [h.tVol, hvol]; rfl
      vTog := by rw [h.vTog, htoggle, Bool.false_or]
      tTog := by rw [h.tTog, htoggle]; rfl
      mode := .inr ⟨p.now, h.lastNow_le, h.mode_of_quiet hquiet⟩ }

theorem noEventBetween_applyOp {x : Sample} {s t : State} (hx : x.noReset = true) (h : applyOp x s = .next t)
    (hquiet : t.out.quiet = true) : NoEventBetween s t := by
  obtain ⟨htick, -⟩ | ⟨-, rfl⟩ := applyOp_noReset hx h
  · exact noEventBetween_of_tick (arbTick_of_applyOp (htick ▸ h)) hquiet
  · exact ⟨rfl, Nat.le_refl _, rfl, rfl, rfl, rfl, .inl rfl⟩

/-- A run of TICKs and HOLDs whose outputs are all quiet. -/
theorem noEventBetween_run {xs : List Sample} {s t : State} (hxs : ∀ x ∈ xs, x.noReset = true)
    (h : runOps xs s = .next t) (hquiet : ∀ o ∈ observe xs s, o.quiet = true) : NoEventBetween s t :=
  runOps_keeps h (fun x hx _ _ hv ho hu => hu.trans (noEventBetween_applyOp (hxs x hx) hv (hquiet _ ho)))
    ⟨rfl, Nat.le_refl _, rfl, rfl, rfl, rfl, .inl rfl⟩

/-- Settles O40: the mode shown at the end is the first one, or what the first tick's timestamps give at a time not
before that tick. -/
theorem modeOnlyMovesDownWithoutEvents : Obligations.ModeOnlyMovesDownWithoutEvents := by
  unfold Obligations.ModeOnlyMovesDownWithoutEvents
  intro s s₁ s₂ p xs hxs h₁ hrun hquiet
  have hfirst := arbTick_of_applyOp h₁
  obtain hkept | ⟨n, hn, hmode⟩ := (noEventBetween_run hxs hrun hquiet).mode
  · exact Nat.le_of_eq (congrArg modeRank hkept)
  · rw [hmode, hfirst.mode]
    exact modeRank_modeAt_antitone s₁ (hfirst.lastNow ▸ hn)

/-- Settles O41: both ticks show what the timestamps of `s` give at the one NOW. -/
theorem skippedTicksShowTheSameMode : Obligations.SkippedTicksShowTheSameMode := by
  unfold Obligations.SkippedTicksShowTheSameMode
  intro xs s s' t t' p q hxs hrun hquiet hp hpquiet hq hqquiet hnow
  have hbetween := noEventBetween_run hxs hrun hquiet
  rw [(arbTick_of_applyOp hq).mode_of_quiet hqquiet, (arbTick_of_applyOp hp).mode_of_quiet hpquiet,
    hbetween.modeAt_eq, hnow]

/-! ### Idle redraws over a run -/

/-- From `s` to `t` there was no idle redraw: the idle generator's registers are the same (R95). -/
structure NoRedrawBetween (s t : State) : Prop where
  cfg : t.cfg = s.cfg
  vIdle : t.vIdle = s.vIdle
  tIdle : t.tIdle = s.tIdle
  phase : t.phase = s.phase

theorem NoRedrawBetween.trans {s t u : State} (h₁ : NoRedrawBetween s t) (h₂ : NoRedrawBetween t u) :
    NoRedrawBetween s u :=
  ⟨h₂.cfg.trans h₁.cfg, h₂.vIdle.trans h₁.vIdle, h₂.tIdle.trans h₁.tIdle, h₂.phase.trans h₁.phase⟩

theorem noRedrawBetween_of_tick {s t : State} {p : Pins} (h : ArbTick s p t) (hfrozen : t.out.idleRedraw = false) :
    NoRedrawBetween s t where
  cfg := h.cfg
  vIdle := by rw [h.vIdle, hfrozen, Bool.false_or]
  tIdle := by rw [h.tIdle, hfrozen]; rfl
  phase := by rw [h.phase, hfrozen]; rfl

theorem noRedrawBetween_applyOp {x : Sample} {s t : State} (hx : x.noReset = true) (h : applyOp x s = .next t)
    (hfrozen : t.out.idleRedraw = false) : NoRedrawBetween s t := by
  obtain ⟨htick, -⟩ | ⟨-, rfl⟩ := applyOp_noReset hx h
  · exact noRedrawBetween_of_tick (arbTick_of_applyOp (htick ▸ h)) hfrozen
  · exact ⟨rfl, rfl, rfl, rfl⟩

/-- Settles O42: the second redraw measures its cadence from the first one's NOW, and presents the phase that the first
one left. -/
theorem successiveIdleRedrawsAreSpacedAndPhased : Obligations.SuccessiveIdleRedrawsAreSpacedAndPhased := by
  unfold Obligations.SuccessiveIdleRedrawsAreSpacedAndPhased
  intro s s₁ s₂ s₃ p q xs hxs h₁ hredraw₁ hrun hfrozen h₃ hredraw₃
  have hfirst := arbTick_of_applyOp h₁
  have hsecond := arbTick_of_applyOp h₃
  have hbetween : NoRedrawBetween s₁ s₂ :=
    runOps_keeps hrun (fun x hx _ _ hv ho hu => hu.trans (noRedrawBetween_applyOp (hxs x hx) hv (hfrozen _ ho)))
      ⟨rfl, rfl, rfl, rfl⟩
  have hvalid : s₂.vIdle = true := by rw [hbetween.vIdle, hfirst.vIdle, hredraw₁, Bool.true_or]
  have hstamp : s₂.tIdle = p.now := by rw [hbetween.tIdle, hfirst.tIdle, if_pos hredraw₁]
  have hphase : s₂.phase = s.nextPhase := by rw [hbetween.phase, hfirst.phase, if_pos hredraw₁]
  refine ⟨?_, ?_⟩
  · obtain ⟨-, hinvalid | hcadence⟩ := hsecond.redraw_iff.1 hredraw₃
    · exact absurd (hinvalid.symm.trans hvalid) Bool.false_ne_true
    · rwa [hbetween.cfg, hfirst.cfg, hstamp] at hcadence
  · rw [hsecond.phaseOut, hphase, hfirst.phaseOut, toNat_nextPhase]

/-! ### Idle redraws and the windows -/

/-- One window over a tick, in which a redraw needs it closed: the redraw and the event stay apart. The tick's own event
is not before the last redraw, and its own redraw is not inside the window (R89, R95). -/
theorem redraw_apart_of_tick {redraw evt vIdle valid : Bool} {tIdle stamp win now : Nat}
    (hold : vIdle = true → valid = true → tIdle ≤ stamp ∨ stamp + win ≤ tIdle)
    (hpast : vIdle = true → tIdle ≤ now)
    (hclosed : redraw = true → windowOpen (evt || valid) (if evt then now else stamp) win now = false) :
    (redraw || vIdle) = true → (evt || valid) = true →
      (if redraw then now else tIdle) ≤ (if evt then now else stamp) ∨
      (if evt then now else stamp) + win ≤ (if redraw then now else tIdle) := by
  intro hvIdle hvalid
  cases redraw with
  | true =>
    have hwin := windowOpen_eq_false.1 (hclosed rfl) hvalid
    rw [if_pos rfl]
    omega
  | false =>
    cases evt with
    | true => exact .inl (hpast hvIdle)
    | false => exact hold hvIdle hvalid

/-- A tick keeps the last idle redraw out of both windows: it redraws only with both closed. -/
theorem idleApart_of_tick {s t : State} {p : Pins} (hinv : s.Inv) (hs : s.IdleApart) (h : ArbTick s p t) :
    t.IdleApart := by
  have hpast : s.vIdle = true → s.tIdle ≤ p.now := fun hv => Nat.le_trans (hinv.idlePast hv) h.lastNow_le
  have hclosed (hredraw : t.out.idleRedraw = true) := muxMode_eq_idle.1 (h.redraw_iff.1 hredraw).1
  constructor
  · rw [h.vIdle, h.tIdle, h.vVol, h.tVol, h.cfg]
    rw [h.vVol, h.tVol, h.cfg] at hclosed
    exact redraw_apart_of_tick hs.vol hpast fun hr => (hclosed hr).1
  · rw [h.vIdle, h.tIdle, h.vTog, h.tTog, h.cfg]
    rw [h.vTog, h.tTog, h.cfg] at hclosed
    exact redraw_apart_of_tick hs.tog hpast fun hr => (hclosed hr).2

/-- A word of the control space is a RESET, a TICK or a HOLD (R48). -/
theorem decode_of_isCtrl {x : Sample} (hx : x.isCtrl = true) :
    (∃ b, decode x.word = .reset b) ∨ decode x.word = .tick ∨ decode x.word = .hold := by
  obtain ⟨w, p⟩ := x
  cases w with
  | ctrl w =>
    change (∃ b, decodeCtrl w = .reset b) ∨ decodeCtrl w = .tick ∨ decodeCtrl w = .hold
    unfold decodeCtrl
    split
    · exact .inl ⟨_, rfl⟩
    · split
      · exact .inr (.inl rfl)
      · exact .inr (.inr rfl)
  | qkey k => cases hx
  | sedge e => cases hx
  | awin w => cases hx

theorem inv_atPins {s : State} (h : s.Inv) (p : Pins) : (s.atPins p).Inv := { h with }

/-- Every operation of the host keeps the invariant. -/
theorem inv_applyOp {x : Sample} {s t : State} (hinv : s.Inv) (h : applyOp x s = .next t) : t.Inv :=
  inv_exec (inv_atPins hinv x.pins) (applyOp_eq x s ▸ h)

theorem idleApart_applyOp {x : Sample} {s t : State} (hinv : s.Inv) (hs : s.IdleApart) (hx : x.isCtrl = true)
    (h : applyOp x s = .next t) : t.IdleApart := by
  rw [applyOp_eq] at h
  obtain ⟨b, hi⟩ | hi | hi := decode_of_isCtrl hx
  · rw [hi] at h
    obtain ⟨-, rfl⟩ := guarded_eq_next.1 h
    exact ⟨nofun, nofun⟩
  · rw [hi] at h
    exact idleApart_of_tick (inv_atPins hinv _) { hs with } (arbTick_of_exec h)
  · rw [hi] at h
    obtain ⟨-, rfl⟩ := guarded_eq_next.1 h
    exact { hs with }

/-- Settles O44: the reset state has had no idle redraw, and each of the three operations keeps what it has. -/
theorem idleRedrawsStayOutOfWindows : Obligations.IdleRedrawsStayOutOfWindows := by
  unfold Obligations.IdleRedrawsStayOutOfWindows
  exact ⟨⟨nofun, nofun⟩, fun _ _ _ hinv hs hx h => idleApart_applyOp hinv hs hx h⟩

/-- A window that is open at `now` and closed at a later tick: the last idle redraw, which is not after `now` and not in
the window, is not after the event either, so at the later tick it lies at least the window's length back (R98 (d)). -/
theorem win_le_elapsed_of_window_closed {evt valid : Bool} {tIdle stamp win now later : Nat}
    (hopen : windowOpen valid stamp win now = true)
    (hclosed : windowOpen (evt || valid) (if evt then later else stamp) win later = false)
    (hapart : valid = true → tIdle ≤ stamp ∨ stamp + win ≤ tIdle) (hpast : tIdle ≤ now)
    (hstamp : valid = true → stamp ≤ later) : win ≤ later - tIdle := by
  obtain ⟨hvalid, hlt⟩ := windowOpen_eq_true.1 hopen
  have hwin := windowOpen_eq_false.1 hclosed (by rw [hvalid, Bool.or_true])
  have hbefore : tIdle ≤ stamp := by
    have := hapart hvalid
    omega
  have hlater : stamp ≤ if evt then later else stamp := by
    have := hstamp hvalid
    split <;> omega
  omega

/-- Settles O43: one of the windows is open at the first tick and closed at the second, so the last idle redraw lies at
least that window's length, hence the cadence, back. -/
theorem firstIdleTickAfterWindowRedraws : Obligations.FirstIdleTickAfterWindowRedraws := by
  unfold Obligations.FirstIdleTickAfterWindowRedraws
  intro s s₁ s₂ p q hinv hs hcadence h₁ hmode₁ h₂ hmode₂
  have hfirst := arbTick_of_applyOp h₁
  have hsecond := arbTick_of_applyOp h₂
  have hinv₁ : s₁.Inv := inv_applyOp hinv h₁
  have hs₁ : s₁.IdleApart := idleApart_of_tick hinv hs hfirst
  have hopen := muxMode_ne_idle.1 fun hidle => hmode₁ (hfirst.mode.trans (mode_code_eq_idle.2 hidle))
  have hidle : s₂.modeAt q.now = .idle := mode_code_eq_idle.1 (hsecond.mode.symm.trans hmode₂)
  obtain ⟨hvolClosed, hppClosed⟩ := muxMode_eq_idle.1 hidle
  rw [hsecond.vVol, hsecond.tVol, hsecond.cfg] at hvolClosed
  rw [hsecond.vTog, hsecond.tTog, hsecond.cfg] at hppClosed
  rw [← hfirst.cfg] at hcadence
  obtain ⟨hvolWin, hppWin⟩ := Nat.le_min.1 hcadence
  have hdue : s₁.vIdle = true → s₁.cfg.idleCadence ≤ q.now - s₁.tIdle := fun hvIdle => by
    have hpast : s₁.tIdle ≤ p.now := hfirst.lastNow ▸ hinv₁.idlePast hvIdle
    obtain hvol | hpp := hopen
    · exact Nat.le_trans hvolWin (win_le_elapsed_of_window_closed hvol hvolClosed (hs₁.vol hvIdle) hpast
        fun hv => Nat.le_trans (hinv₁.volPast hv) hsecond.lastNow_le)
    · exact Nat.le_trans hppWin (win_le_elapsed_of_window_closed hpp hppClosed (hs₁.tog hvIdle) hpast
        fun hv => Nat.le_trans (hinv₁.togPast hv) hsecond.lastNow_le)
  refine hsecond.redraw_iff.2 ⟨hidle, ?_⟩
  cases hvIdle : s₁.vIdle with
  | false => exact .inl rfl
  | true => exact .inr (hdue hvIdle)

end Sys2Proof.Machine

/-! PROOFS. The statements of 43_event_apply.md: the volume part and the play part in every tick (R100 to R104), the order
of the strobes (R105), and what the two parts leave over a run since RESET (R102, R106, R107). -/

namespace Sys2Proof

/-- The clamp as a least and a greatest bound (R9). -/
theorem clamp_eq_max_min (v : Int) : clamp v 0 100 = max 0 (min 100 v) := by
  unfold clamp
  split
  · omega
  · split <;> omega

namespace Machine

/-! ### The event stage in every tick -/

/-- What a TICK does from `s` to `t` as far as the event stage goes, in terms of the direction that DIR shows and of
SWDET's toggle (R100 to R104). The timestamps are ARB's to see and stand in `ArbTick`. -/
structure EventTick (s t : State) : Prop where
  legal : s.cfg.legal = true
  cfg : t.cfg = s.cfg
  dir : dirValue t.out.dir = 0 ∨ dirValue t.out.dir = 1 ∨ dirValue t.out.dir = -1
  vol : t.vol = s.volNext (dirValue t.out.dir)
  volPort : t.out.vol = t.vol
  cmdVolInc : t.out.cmdVolInc = (decide (dirValue t.out.dir = 1) && s.cmdOk (dirValue t.out.dir))
  cmdVolDec : t.out.cmdVolDec = (decide (dirValue t.out.dir = -1) && s.cmdOk (dirValue t.out.dir))
  volRedraw : t.out.volRedraw = s.volEvent (dirValue t.out.dir)
  play : t.play = (t.toggle ^^ s.play)
  playPort : t.out.play = t.play
  cmdPpToggle : t.out.cmdPpToggle = t.toggle
  ppRedraw : t.out.ppRedraw = t.toggle

theorem legal_of_runnable {s : State} (h : s.runnable = true) : s.cfg.legal = true := by
  rw [State.runnable, Bool.and_eq_true] at h
  exact h.1

theorem eventTick_of_exec {s t : State} (h : exec .tick s = .next t) : EventTick s t := by
  obtain ⟨hc, rfl⟩ := guardedAtNow_eq_next.1 h
  obtain ⟨hr, -⟩ := canTick_iff.1 hc
  exact ⟨legal_of_runnable hr, rfl, dirValue_romRead _ _, rfl, rfl, rfl, rfl, rfl, rfl, rfl, rfl, rfl⟩

theorem eventTick_of_applyOp {s t : State} {p : Pins} (h : applyOp (tickAt p) s = .next t) : EventTick s t :=
  { eventTick_of_exec (s := s.atPins p) h with }

/-- A tick that can run has a next state, which is described in the event stage's terms and in ARB's. -/
theorem exec_tick_events {s : State} (h : s.canTick = true) :
    ∃ t, exec .tick s = .next t ∧ EventTick s t ∧ ArbTick s s.pins t := by
  have ht := exec_tick_of_canTick h
  exact ⟨_, ht, eventTick_of_exec ht, arbTick_of_exec ht⟩

/-! ### The volume part -/

namespace EventTick

variable {s t : State}

/-- VOL after a step (R100). -/
theorem toNat_vol (h : EventTick s t) (hd : dirValue t.out.dir ≠ 0) :
    (t.vol.toNat : Int) = clamp (s.vol.toNat + s.cfg.volStep * dirValue t.out.dir) 0 100 := by
  rw [h.vol, toNat_volNext s _ hd]

/-- A null step shows in VOL: it is a step that leaves VOL as it was (R100). -/
theorem nullStep_eq (h : EventTick s t) :
    s.nullStep (dirValue t.out.dir) = (decide (dirValue t.out.dir ≠ 0) && t.vol == s.vol) := by
  rw [State.nullStep, h.vol]

theorem volEvent_eq (h : EventTick s t) :
    s.volEvent (dirValue t.out.dir) = (decide (dirValue t.out.dir ≠ 0) &&
      (!(decide (dirValue t.out.dir ≠ 0) && t.vol == s.vol) || s.cfg.volTsOnClamp)) := by
  rw [State.volEvent, h.nullStep_eq]

theorem cmdOk_eq (h : EventTick s t) :
    s.cmdOk (dirValue t.out.dir) =
      (!(decide (dirValue t.out.dir ≠ 0) && t.vol == s.vol) || s.cfg.cmdOnClamp) := by
  rw [State.cmdOk, h.nullStep_eq]

/-- VOL_STEP is at least 1, so the clamp absorbs a whole step only at the end of the range that it goes to (R100). -/
theorem range_end_of_vol_unchanged (h : EventTick s t) (hrange : s.vol.toNat ≤ 100)
    (hd : dirValue t.out.dir ≠ 0) (hsame : t.vol = s.vol) :
    (s.vol = 100#7 ∧ dirValue t.out.dir = 1) ∨ (s.vol = 0#7 ∧ dirValue t.out.dir = -1) := by
  obtain ⟨-, -, -, -, -, ⟨hstep, -⟩, -⟩ := Config.legal_iff.1 h.legal
  have hvol := h.toNat_vol hd
  rw [hsame, clamp_eq_max_min] at hvol
  obtain hzero | hup | hdown := h.dir
  · exact absurd hzero hd
  · rw [hup] at hvol ⊢
    exact .inl ⟨BitVec.eq_of_toNat_eq (by change s.vol.toNat = 100; omega), rfl⟩
  · rw [hdown] at hvol ⊢
    exact .inr ⟨BitVec.eq_of_toNat_eq (by change s.vol.toNat = 0; omega), rfl⟩

end EventTick

/-- Settles O46: VOL is the clamped sum, and the timestamp follows VOL_REDRAW, which shows the volume event. -/
theorem tickAppliesClampedVolumeStep : Obligations.TickAppliesClampedVolumeStep := by
  unfold Obligations.TickAppliesClampedVolumeStep
  intro s h
  obtain ⟨t, ht, hevent, harb⟩ := exec_tick_events h
  refine ⟨t, ht, fun hd => ?_, fun hd => ?_, hevent.volPort, ?_, ?_, fun hrange hnull => ?_⟩
  · rw [hevent.toNat_vol hd, clamp_eq_max_min]
  · rw [hevent.vol, hd, volNext_zero]
  · rw [harb.tVol, hevent.volRedraw, hevent.volEvent_eq]
  · rw [harb.vVol, hevent.volRedraw, hevent.volEvent_eq, Bool.if_true_left, Bool.decide_eq_true]
  · rw [Bool.and_eq_true, decide_eq_true_eq, beq_iff_eq] at hnull
    exact hevent.range_end_of_vol_unchanged hrange hnull.1 hnull.2

/-! ### The strobes of a tick -/

/-- A direction has one sign (R103). -/
theorem EventTick.oneVolCommand {s t : State} (h : EventTick s t) :
    (t.out.cmdVolInc && t.out.cmdVolDec) = false := by
  rw [h.cmdVolInc, h.cmdVolDec]
  obtain hd | hd | hd := h.dir <;> simp [hd]

/-- Settles O48: each volume command is a sign of the direction under `cmd_ok`, and the toggle has its own. -/
theorem tickIssuesHostCommands : Obligations.TickIssuesHostCommands := by
  unfold Obligations.TickIssuesHostCommands
  intro s h
  obtain ⟨t, ht, hevent, -⟩ := exec_tick_events h
  refine ⟨t, ht, ?_, ?_, hevent.cmdPpToggle, hevent.oneVolCommand⟩
  · rw [hevent.cmdVolInc, hevent.cmdOk_eq]
  · rw [hevent.cmdVolDec, hevent.cmdOk_eq]

/-- At the NOW of its own event a window is open, since it is at least 1 long (R6, R89). -/
theorem windowOpen_of_event {evt valid : Bool} {stamp win now : Nat} (hevt : evt = true) (hwin : 1 ≤ win) :
    windowOpen (evt || valid) (if evt then now else stamp) win now = true := by
  subst hevt
  exact windowOpen_eq_true.2 ⟨rfl, by rw [if_pos rfl]; omega⟩

/-- A tick with an event opens that event's window, so its mode is not Idle and it does not redraw (R104). -/
theorem noIdleRedraw_of_event {s t : State} {p : Pins} (h : ArbTick s p t) (hlegal : s.cfg.legal = true)
    (hevt : t.out.volRedraw = true ∨ t.out.cmdPpToggle = true) : t.out.idleRedraw = false := by
  obtain ⟨-, -, hvolWin, hppWin, -⟩ := Config.legal_iff.1 hlegal
  have hopen : t.modeAt p.now ≠ .idle := by
    rw [State.modeAt, h.vVol, h.tVol, h.vTog, h.tTog, h.cfg]
    obtain hvol | htoggle := hevt
    · exact muxMode_ne_idle.2 (.inl (windowOpen_of_event hvol hvolWin))
    · exact muxMode_ne_idle.2 (.inr (windowOpen_of_event htoggle hppWin))
  exact h.noRedraw_of_mode fun hidle => hopen (mode_code_eq_idle.1 (h.mode.symm.trans hidle))

/-- Settles O49: the strobes are the volume event and the toggle, and either of them opens a window. -/
theorem tickIssuesRedrawStrobes : Obligations.TickIssuesRedrawStrobes := by
  unfold Obligations.TickIssuesRedrawStrobes
  intro s h
  obtain ⟨t, ht, hevent, harb⟩ := exec_tick_events h
  refine ⟨t, ht, ?_, hevent.ppRedraw, fun hevt => ?_⟩
  · rw [hevent.volRedraw, hevent.volEvent_eq]
    cases decide (dirValue t.out.dir ≠ 0) <;> rfl
  · rw [hevent.ppRedraw, ← hevent.cmdPpToggle] at hevt
    exact noIdleRedraw_of_event harb hevent.legal hevt

/-- A host acts on exactly the asserted strobes (R105). -/
theorem mem_strobes {o : Outputs} {x : Strobe} : x ∈ o.strobes ↔ o.asserts x = true := by
  have hlisted : x ∈ [Strobe.cmdVolInc, .cmdVolDec, .volRedraw, .cmdPpToggle, .ppRedraw, .idleRedraw] := by
    cases x <;> decide
  rw [Outputs.strobes, List.mem_filter, and_iff_right hlisted]

/-- Settles O50: the asserted strobes are filtered out of R105's list. -/
theorem strobesComeInHostOrder : Obligations.StrobesComeInHostOrder := by
  unfold Obligations.StrobesComeInHostOrder
  intro o
  exact ⟨List.filter_sublist, mem_strobes, mem_strobes, mem_strobes, mem_strobes, mem_strobes, mem_strobes⟩

/-! ### Two steps at an end of the range -/

/-- Under CMD_ON_CLAMP every step issues its command, null or not (R103). -/
theorem cmdOk_of_cmdOnClamp {s : State} (h : s.cfg.cmdOnClamp = true) (d : Int) : s.cmdOk d = true := by
  rw [State.cmdOk, h, Bool.or_true]

theorem EventTick.cmdVolInc_of_cmdOnClamp {s t : State} (h : EventTick s t) (hclamp : s.cfg.cmdOnClamp = true)
    (hdir : t.out.dir = 0b01#2) : t.out.cmdVolInc = true := by
  rw [h.cmdVolInc, cmdOk_of_cmdOnClamp hclamp, hdir]
  rfl

theorem EventTick.cmdVolDec_of_cmdOnClamp {s t : State} (h : EventTick s t) (hclamp : s.cfg.cmdOnClamp = true)
    (hdir : t.out.dir = 0b11#2) : t.out.cmdVolDec = true := by
  rw [h.cmdVolDec, cmdOk_of_cmdOnClamp hclamp, hdir]
  rfl

/-- A step up moves VOL by VOL_STEP, to 100 at most (R100). -/
theorem EventTick.toNat_vol_up {s t : State} (h : EventTick s t) (hdir : t.out.dir = 0b01#2) :
    t.vol.toNat = min 100 (s.vol.toNat + s.cfg.volStep) := by
  have hd : dirValue t.out.dir = 1 := by rw [hdir]; rfl
  have hvol := h.toNat_vol (by omega)
  rw [hd, clamp_eq_max_min] at hvol
  omega

/-- A step down moves VOL by VOL_STEP, to 0 at least (R100). -/
theorem EventTick.toNat_vol_down {s t : State} (h : EventTick s t) (hdir : t.out.dir = 0b11#2) :
    t.vol.toNat = min 100 (s.vol.toNat - s.cfg.volStep) := by
  have hd : dirValue t.out.dir = -1 := by rw [hdir]; rfl
  have hvol := h.toNat_vol (by omega)
  rw [hd, clamp_eq_max_min] at hvol
  omega

/-- Settles O51: the first step ends where it began, at the end of the range, and the second one has the room of a whole
VOL_STEP. -/
theorem clampIsNotInvertible : Obligations.ClampIsNotInvertible := by
  unfold Obligations.ClampIsNotInvertible
  intro s s₁ s₂ p q h₁ h₂
  have hfirst := eventTick_of_applyOp h₁
  have hsecond := eventTick_of_applyOp h₂
  obtain ⟨-, -, -, -, -, ⟨-, hstep⟩, -⟩ := Config.legal_iff.1 hfirst.legal
  refine ⟨fun hvol hup hdown => ⟨?_, fun hclamp => ?_⟩, fun hvol hdown hup => ⟨?_, fun hclamp => ?_⟩⟩
  · have hstart : s.vol.toNat = 100 := by rw [hvol]; rfl
    rw [hsecond.toNat_vol_down hdown, hfirst.toNat_vol_up hup, hfirst.cfg]
    omega
  · exact ⟨hfirst.cmdVolInc_of_cmdOnClamp hclamp hup,
      hsecond.cmdVolDec_of_cmdOnClamp (hfirst.cfg ▸ hclamp) hdown⟩
  · have hstart : s.vol.toNat = 0 := by rw [hvol]; rfl
    rw [hsecond.toNat_vol_up hup, hfirst.toNat_vol_down hdown, hfirst.cfg]
    omega
  · exact ⟨hfirst.cmdVolDec_of_cmdOnClamp hclamp hdown,
      hsecond.cmdVolInc_of_cmdOnClamp (hfirst.cfg ▸ hclamp) hup⟩

/-! ### PLAY since RESET -/

/-- The toggles of a run split at its first outputs (R102). -/
theorem toggles_cons (o : Outputs) (os : List Outputs) :
    toggles (o :: os) = toggles os + if o.cmdPpToggle then 1 else 0 := by
  rw [toggles, List.countP_cons, toggles]

theorem play_applyOp {x : Sample} {s t : State} (hx : x.noReset = true) (h : applyOp x s = .next t) :
    t.play = (t.out.cmdPpToggle ^^ s.play) := by
  obtain ⟨-, htick⟩ | hhold := applyOp_noReset_swdet hx h
  · exact htick.play
  · rw [hhold.noToggle, Bool.false_xor, hhold.play]

/-- One more toggle changes the parity of their number. -/
theorem decide_odd_add_ite (n : Nat) (b : Bool) :
    decide ((n + if b then 1 else 0) % 2 = 1) = (b ^^ decide (n % 2 = 1)) := by
  cases b with
  | false => rw [Bool.false_xor]; rfl
  | true =>
    rw [Bool.true_xor, ← decide_not, if_pos rfl, decide_eq_decide]
    omega

/-- A run of TICKs and HOLDs leaves PLAY inverted when its toggles are odd in number (R102). -/
theorem play_run {xs : List Sample} {s t : State} (hxs : ∀ x ∈ xs, x.noReset = true) (h : runOps xs s = .next t) :
    t.play = (s.play ^^ decide (toggles (observe xs s) % 2 = 1)) := by
  induction xs generalizing s with
  | nil =>
    cases h
    exact (Bool.xor_false _).symm
  | cons x xs ih =>
    obtain ⟨hx, hrest⟩ := List.forall_mem_cons.1 hxs
    obtain ⟨u, hu, hrun, hobs⟩ := runOps_cons h
    rw [ih hrest hrun, play_applyOp hx hu, hobs, toggles_cons, decide_odd_add_ite, Bool.xor_left_comm, Bool.xor_assoc]

/-- Settles O47: each tick inverts PLAY on its toggle, and RESET has loaded PLAY_RESET. -/
theorem playInvertsOnEachToggle : Obligations.PlayInvertsOnEachToggle := by
  unfold Obligations.PlayInvertsOnEachToggle
  refine ⟨fun s h => ?_, fun xs s r t p hxs hreset hrun => ?_⟩
  · obtain ⟨t, ht, hevent, -⟩ := exec_tick_events h
    refine ⟨t, ht, ?_, hevent.playPort⟩
    rw [hevent.play]
    cases t.toggle with
    | false => exact Bool.false_xor _
    | true => exact Bool.true_xor _
  · obtain ⟨-, rfl⟩ := applyOp_reset hreset
    exact play_run hxs hrun

/-! ### The volume and the valid bits since RESET -/

/-- A register that each operation of a run sets on a strobe and otherwise keeps: at the end it is 1 when it was, or when
the strobe was asserted on the way. -/
theorem latch_run {latch : State → Bool} {strobe : Outputs → Bool} {xs : List Sample} {s t : State}
    (hop : ∀ x ∈ xs, ∀ u v, applyOp x u = .next v → latch v = (strobe v.out || latch u))
    (h : runOps xs s = .next t) : latch t = true ↔ latch s = true ∨ ∃ o ∈ observe xs s, strobe o = true := by
  induction xs generalizing s with
  | nil =>
    cases h
    simp
  | cons x xs ih =>
    obtain ⟨hfirst, hrest⟩ := List.forall_mem_cons.1 hop
    obtain ⟨u, hu, hrun, hobs⟩ := runOps_cons h
    rw [ih hrest hrun, hfirst s u hu, hobs, Bool.or_eq_true, or_assoc, or_left_comm]
    simp only [List.mem_cons, exists_eq_or_imp]

theorem vVol_applyOp {x : Sample} {s t : State} (hx : x.noReset = true) (h : applyOp x s = .next t) :
    t.vVol = (t.out.volRedraw || s.vVol) := by
  obtain ⟨htick, -⟩ | ⟨-, rfl⟩ := applyOp_noReset hx h
  · exact (arbTick_of_applyOp (htick ▸ h)).vVol
  · rfl

theorem vTog_applyOp {x : Sample} {s t : State} (hx : x.noReset = true) (h : applyOp x s = .next t) :
    t.vTog = (t.out.cmdPpToggle || s.vTog) := by
  obtain ⟨-, htick⟩ | hhold := applyOp_noReset_swdet hx h
  · exact htick.vTog
  · rw [hhold.noToggle, Bool.false_or, hhold.vTog]

theorem volRange_applyOp {x : Sample} {s t : State} (hx : x.noReset = true) (h : applyOp x s = .next t)
    (hs : s.vol.toNat ≤ 100) : t.vol.toNat ≤ 100 := by
  obtain ⟨htick, -⟩ | ⟨-, rfl⟩ := applyOp_noReset hx h
  · rw [(eventTick_of_applyOp (htick ▸ h)).vol]
    exact volNext_le s _ hs
  · exact hs

/-- A legal VOL_RESET fits VOL and its range (R6, R129). -/
theorem resetWrite_volRange {s : State} (h : s.cfg.legal = true) : (resetWrite s).vol.toNat ≤ 100 := by
  obtain ⟨-, -, -, -, -, -, -, hvol, -⟩ := Config.legal_iff.1 h
  rw [resetWrite_vol, BitVec.toNat_ofNat]
  omega

/-- Settles O52: RESET leaves VOL in range and both valid bits 0, and each operation after it keeps the range and sets a
valid bit on its event. -/
theorem validBitsRecordEventsSinceReset : Obligations.ValidBitsRecordEventsSinceReset := by
  unfold Obligations.ValidBitsRecordEventsSinceReset
  intro xs s r t p hxs hreset hrun
  obtain ⟨hr, rfl⟩ := applyOp_reset hreset
  have hrange : (resetWrite (s.atPins p)).vol.toNat ≤ 100 := resetWrite_volRange (legal_of_runnable hr)
  have hvVol := latch_run (fun x hx _ _ hv => vVol_applyOp (hxs x hx) hv) hrun
  have hvTog := latch_run (fun x hx _ _ hv => vTog_applyOp (hxs x hx) hv) hrun
  refine ⟨?_, hvVol.trans (or_iff_right nofun), hvTog.trans (or_iff_right nofun)⟩
  exact runOps_keeps (P := (·.vol.toNat ≤ 100)) hrun (fun x hx _ _ hv _ hu => volRange_applyOp (hxs x hx) hv hu) hrange

end Machine

end Sys2Proof

/-! PROOFS. The statements of 44_tick.md: HOLD (R109), TICK against its pseudocode (R108, R110), ticks that carry one NOW
(R111), and what a tick is a function of (R112). -/

namespace Sys2Proof.Machine

/-! ### HOLD -/

/-- Settles O9: HOLD is one guarded write, and neither the guard nor the write reads the levels on the inputs. -/
theorem holdChangesNoState : Obligations.HoldChangesNoState := by
  unfold Obligations.HoldChangesNoState
  refine ⟨by decide, fun _ h => guarded_of_runnable h _, fun s _ p q h => ?_⟩
  obtain ⟨hr, rfl⟩ := guarded_eq_next.1 h
  exact guarded_of_runnable (s := { s with pins := q }) hr _

/-! ### TICK and its pseudocode

The model's locals in the spelling of R108, where the two differ; `gate_eq` and `idleDue_eq` are two more of them. -/

theorem volNext_eq (s : State) (d : Int) : s.volNext d =
    if d ≠ 0 then BitVec.ofInt 7 (clamp (s.vol.toNat + s.cfg.volStep * d) 0 100) else s.vol := by
  rw [ite_not]
  rfl

theorem nullStep_eq (s : State) (d : Int) :
    s.nullStep d = if d ≠ 0 then s.volNext d == s.vol else false := by
  rw [State.nullStep]
  by_cases hd : d = 0 <;> simp [hd]

/-- PLAY, which a toggle inverts. -/
theorem ite_not_eq_xor (e v : Bool) : (if e then !v else v) = (e ^^ v) := by
  cases e
  · exact (Bool.false_xor v).symm
  · exact (Bool.true_xor v).symm

/-- The chain of the units is the pseudocode: no unit reads what an earlier one wrote, except the locals that the
pseudocode reads there too (R37, R108). -/
theorem tickWrite_eq_tickSpec (s : State) : { tickWrite s with lastNow := s.pins.now } = tickSpec s := by
  have hdir : dirValue (romRead s.cfg.polarity (Sys2Proof.key s.prev (bits2 s.pins.clk s.pins.dt))) = s.tickDir := rfl
  simp only [tickSpec, hdir, ← volNext_eq, ← nullStep_eq, ← gate_eq, ← idleDue_eq, ite_not_eq_xor, Bool.if_true_left,
    Bool.decide_eq_true, beq_true]
  rfl

/-- A TICK whose NOW goes backwards is refused (R110). -/
theorem exec_tick_of_timeBackwards {s : State} (hr : s.runnable = true) (h : s.pins.now < s.lastNow) :
    exec .tick s = .refused .timeBackwards :=
  guardedAtNow_eq_refused.2 (.inr (.inr ⟨hr, h, rfl⟩))

/-- Settles O10: the guard divides the two cases at LAST_NOW, and the write it guards is the pseudocode. -/
theorem tickIsTheComposedStep : Obligations.TickIsTheComposedStep := by
  unfold Obligations.TickIsTheComposedStep
  refine ⟨by decide, fun s hr => ⟨fun hnow => ?_, exec_tick_of_timeBackwards hr⟩⟩
  rw [← tickWrite_eq_tickSpec]
  exact exec_tick_of_canTick (canTick_iff.2 ⟨hr, hnow⟩)

/-! ### The comparators of a tick as windows

The debounce gate and the cadence gate are windows too, which pass when they are closed (R79, R95). -/

theorem gate_eq_not_windowOpen (s : State) :
    s.gate = !windowOpen s.vTog s.tTog (s.cfg.debounce + 1) s.pins.now := by
  rw [Bool.eq_iff_iff, gate_eq_true, Bool.not_eq_true', windowOpen_eq_false, Nat.add_one_le_iff]
  cases s.vTog <;> simp

theorem idleDue_eq_not_windowOpen (s : State) :
    s.idleDue = !windowOpen s.vIdle s.tIdle s.cfg.idleCadence s.pins.now := by
  rw [Bool.eq_iff_iff, idleDue_eq_true, Bool.not_eq_true', windowOpen_eq_false]
  cases s.vIdle <;> simp

/-! ### A tick is a function of the state elements and the inputs -/

/-- Two timestamps with their valid bits agree, an invalid one whatever it holds. -/
structure SameStamp (v₁ : Bool) (t₁ : Nat) (v₂ : Bool) (t₂ : Nat) : Prop where
  valid : v₁ = v₂
  stamp : v₁ = true → t₁ = t₂

/-- No window tells the two apart: it reads a timestamp only when it is valid (R89). -/
theorem SameStamp.windowOpen_eq {v₁ v₂ : Bool} {t₁ t₂ : Nat} (h : SameStamp v₁ t₁ v₂ t₂) (win now : Nat) :
    windowOpen v₁ t₁ win now = windowOpen v₂ t₂ win now := by
  obtain ⟨rfl, hstamp⟩ := h
  cases v₁ with
  | false => rfl
  | true => rw [hstamp rfl]

/-- One event loads both with one NOW, and without it both are kept. -/
theorem SameStamp.event {v₁ v₂ e₁ e₂ : Bool} {t₁ t₂ now₁ now₂ : Nat} (h : SameStamp v₁ t₁ v₂ t₂) (he : e₁ = e₂)
    (hnow : now₁ = now₂) :
    SameStamp (e₁ || v₁) (if e₁ then now₁ else t₁) (e₂ || v₂) (if e₂ then now₂ else t₂) := by
  subst he hnow
  cases e₁ with
  | false => exact h
  | true => exact ⟨rfl, fun _ => rfl⟩

/-- Two states agree on all that R112 names: the configuration, the inputs and the eleven state elements. -/
structure SameElements (s₁ s₂ : State) : Prop where
  cfg : s₁.cfg = s₂.cfg
  pins : s₁.pins = s₂.pins
  prev : s₁.prev = s₂.prev
  lastLvl : s₁.lastLvl = s₂.lastLvl
  tog : SameStamp s₁.vTog s₁.tTog s₂.vTog s₂.tTog
  vol : SameStamp s₁.vVol s₁.tVol s₂.vVol s₂.tVol
  idle : SameStamp s₁.vIdle s₁.tIdle s₂.vIdle s₂.tIdle
  phase : s₁.phase = s₂.phase
  level : s₁.vol = s₂.vol
  play : s₁.play = s₂.play

namespace SameElements

variable {s₁ s₂ : State}

theorem romRead_eq (h : SameElements s₁ s₂) : romRead s₁.cfg.polarity s₁.key = romRead s₂.cfg.polarity s₂.key := by
  rw [State.key, State.key, h.cfg, h.prev, h.pins]

theorem tickDir_eq (h : SameElements s₁ s₂) : s₁.tickDir = s₂.tickDir := congrArg dirValue h.romRead_eq

theorem volNext_eq (h : SameElements s₁ s₂) (d : Int) : s₁.volNext d = s₂.volNext d := by
  rw [State.volNext, State.volNext, h.level, h.cfg]

theorem nullStep_eq (h : SameElements s₁ s₂) (d : Int) : s₁.nullStep d = s₂.nullStep d := by
  rw [State.nullStep, State.nullStep, h.volNext_eq, h.level]

theorem cmdOk_eq (h : SameElements s₁ s₂) (d : Int) : s₁.cmdOk d = s₂.cmdOk d := by
  rw [State.cmdOk, State.cmdOk, h.nullStep_eq, h.cfg]

theorem tickVolEvt_eq (h : SameElements s₁ s₂) : s₁.tickVolEvt = s₂.tickVolEvt := by
  rw [State.tickVolEvt, State.tickVolEvt, State.volEvent, State.volEvent, h.tickDir_eq, h.nullStep_eq, h.cfg]

theorem tickToggle_eq (h : SameElements s₁ s₂) : s₁.tickToggle = s₂.tickToggle := by
  rw [State.tickToggle, State.tickToggle, gate_eq_not_windowOpen, gate_eq_not_windowOpen, State.edgeCode,
    State.edgeCode, h.tog.windowOpen_eq, h.lastLvl, h.cfg, h.pins]

theorem now_eq (h : SameElements s₁ s₂) : s₁.pins.now = s₂.pins.now := congrArg Pins.now h.pins

theorem tickVol (h : SameElements s₁ s₂) : SameStamp s₁.tickVVol s₁.tickTVol s₂.tickVVol s₂.tickTVol :=
  h.vol.event h.tickVolEvt_eq h.now_eq

theorem tickTog (h : SameElements s₁ s₂) : SameStamp s₁.tickVTog s₁.tickTTog s₂.tickVTog s₂.tickTTog :=
  h.tog.event h.tickToggle_eq h.now_eq

/-- ARB sees this tick's timestamps (R89). -/
theorem tickMode_eq (h : SameElements s₁ s₂) : s₁.tickMode = s₂.tickMode := by
  have hvol : s₁.tickVolWin = s₂.tickVolWin :=
    (h.tickVol.windowOpen_eq s₁.cfg.volWin s₁.pins.now).trans (by rw [h.cfg, h.pins]; rfl)
  have hpp : s₁.tickPpWin = s₂.tickPpWin :=
    (h.tickTog.windowOpen_eq s₁.cfg.ppWin s₁.pins.now).trans (by rw [h.cfg, h.pins]; rfl)
  rw [State.tickMode, State.tickMode, hvol, hpp]

theorem tickRedraw_eq (h : SameElements s₁ s₂) : s₁.tickRedraw = s₂.tickRedraw := by
  rw [State.tickRedraw, State.tickRedraw, idleDue_eq_not_windowOpen, idleDue_eq_not_windowOpen, h.idle.windowOpen_eq,
    h.tickMode_eq, h.cfg, h.pins]

theorem nextPhase_eq (h : SameElements s₁ s₂) : s₁.nextPhase = s₂.nextPhase := by
  rw [State.nextPhase, State.nextPhase, h.phase, h.cfg]

theorem tickWrite_out_eq (h : SameElements s₁ s₂) : (tickWrite s₁).out = (tickWrite s₂).out := by
  apply Outputs.ext <;>
    simp [h.romRead_eq, h.tickDir_eq, h.cmdOk_eq, h.tickToggle_eq, h.tickVolEvt_eq, h.tickRedraw_eq, h.tickMode_eq,
      h.volNext_eq, h.phase, h.play]

/-- The eleven state elements agree after the tick as they do before it. -/
theorem after_tickWrite (h : SameElements s₁ s₂) : SameElements (tickWrite s₁) (tickWrite s₂) where
  cfg := h.cfg
  pins := h.pins
  prev := congrArg Pins.cur h.pins
  lastLvl := congrArg Pins.sw h.pins
  tog := h.tickTog
  vol := h.tickVol
  idle := h.idle.event h.tickRedraw_eq h.now_eq
  phase := by rw [tickWrite_phase, tickWrite_phase, h.tickRedraw_eq, h.nextPhase_eq, h.phase]
  level := by rw [tickWrite_vol, tickWrite_vol, h.tickDir_eq, h.volNext_eq]
  play := by rw [tickWrite_play, tickWrite_play, h.tickToggle_eq, h.play]

end SameElements

/-- Settles O56: what a tick computes and writes is the same in two states that agree on the elements. -/
theorem tickIsAFunctionOfStateAndInputs : Obligations.TickIsAFunctionOfStateAndInputs := by
  unfold Obligations.TickIsAFunctionOfStateAndInputs
  intro s₁ s₂ h₁ h₂ hcfg hpins hprev hlvl hvTog htTog hvVol htVol hvIdle htIdle hphase hvol hplay
  have hsame : SameElements s₁ s₂ :=
    ⟨hcfg, hpins, hprev, hlvl, ⟨hvTog, htTog⟩, ⟨hvVol, htVol⟩, ⟨hvIdle, htIdle⟩, hphase, hvol, hplay⟩
  obtain ⟨-, -, hprev', hlvl', htog', hvol', hidle', hphase', hlevel', hplay'⟩ := hsame.after_tickWrite
  exact ⟨_, _, exec_tick_of_canTick h₁, exec_tick_of_canTick h₂, hsame.tickWrite_out_eq, hprev', hlvl', htog'.valid,
    htog'.stamp, hvol'.valid, hvol'.stamp, hidle'.valid, hidle'.stamp, hphase', hlevel', hplay'⟩

/-! ### Ticks at one NOW -/

/-- A timestamp that a strobe loads with NOW stands there after it, however many ticks come at that NOW: each of them
keeps it or loads it with the same NOW. -/
theorem stamp_stays_at_now {valid : State → Bool} {stamp : State → Nat} {strobe : Outputs → Bool}
    (hop : ∀ {s t : State} {p : Pins}, ArbTick s p t →
      valid t = (strobe t.out || valid s) ∧ stamp t = if strobe t.out then p.now else stamp s)
    {s s₁ s₂ : State} {p : Pins} {ps : List Pins} (hps : ∀ r ∈ ps, r.now = p.now) (h₁ : ArbTick s p s₁)
    (hrun : runOps (ps.map tickAt) s₁ = .next s₂) (hstrobe : strobe s₁.out = true) :
    valid s₂ = true ∧ stamp s₂ = p.now := by
  refine runOps_keeps (P := fun u => valid u = true ∧ stamp u = p.now) hrun (fun x hx u v hv _ hu => ?_) ?_
  · obtain ⟨r, hr, rfl⟩ := List.mem_map.1 hx
    obtain ⟨hvalid, hstamp⟩ := hop (arbTick_of_applyOp hv)
    rw [hvalid, hstamp, hps r hr, hu.1, hu.2, Bool.or_true, ite_self]
    exact ⟨rfl, rfl⟩
  · obtain ⟨hvalid, hstamp⟩ := hop h₁
    rw [hvalid, hstamp, hstrobe, Bool.true_or, if_pos rfl]
    exact ⟨rfl, rfl⟩

/-- At the NOW of its timestamp a window is open, and an event at that NOW leaves it open. -/
theorem windowOpen_at_stamp {evt valid : Bool} {stamp win now : Nat} (h : valid = true ∧ stamp = now) (hwin : 1 ≤ win) :
    windowOpen (evt || valid) (if evt then now else stamp) win now = true := by
  obtain ⟨rfl, rfl⟩ := h
  rw [Bool.or_true, ite_self, windowOpen_eq_true, Nat.sub_self]
  exact ⟨rfl, hwin⟩

/-- Settles O59: the timestamp of the first tick's event or redraw still stands at the one NOW when the last tick comes, so
the gates measure 0 and that event's window is open. -/
theorem equalTimesAreElapsedZero : Obligations.EqualTimesAreElapsedZero := by
  unfold Obligations.EqualTimesAreElapsedZero
  intro s s₁ s₂ s₃ p q ps hps hq h₁ hrun h₃
  have hfirst := arbTick_of_applyOp h₁
  have hlast := arbTick_of_applyOp h₃
  obtain ⟨-, -, hvolWin, hppWin, hcadence, -⟩ := Config.legal_iff.1 (eventTick_of_applyOp h₃).legal
  have htog := stamp_stays_at_now (fun h => ⟨h.vTog, h.tTog⟩) hps hfirst hrun
  have hvol := stamp_stays_at_now (fun h => ⟨h.vVol, h.tVol⟩) hps hfirst hrun
  have hidle := stamp_stays_at_now (fun h => ⟨h.vIdle, h.tIdle⟩) hps hfirst hrun
  rw [← hq] at htog hvol hidle
  have hmode := hlast.mode
  rw [State.modeAt, hlast.cfg, hlast.vVol, hlast.tVol, hlast.vTog, hlast.tTog] at hmode
  refine ⟨fun hevt => Bool.eq_false_iff.2 fun hagain => ?_, fun hevt => ?_, fun hevt => ?_,
    fun hevt => Bool.eq_false_iff.2 fun hagain => ?_⟩
  · obtain ⟨hvalid, hstamp⟩ := htog hevt
    obtain ⟨-, -, hgate⟩ := (swdetTick_of_applyOp h₃).toggle_iff.1 hagain
    rw [hvalid, hstamp, Nat.sub_self] at hgate
    exact hgate.elim nofun (Nat.not_lt_zero _)
  · rw [hmode, windowOpen_at_stamp (hvol hevt) hvolWin]
    rfl
  · have hevent := eventTick_of_applyOp h₁
    rw [hevent.ppRedraw, ← hevent.cmdPpToggle] at hevt
    rw [hmode]
    exact fun hcode => muxMode_ne_idle.2 (.inr (windowOpen_at_stamp (htog hevt) hppWin)) (mode_code_eq_idle.1 hcode)
  · obtain ⟨hvalid, hstamp⟩ := hidle hevt
    obtain ⟨-, hdue⟩ := hlast.redraw_iff.1 hagain
    rw [hvalid, hstamp, Nat.sub_self] at hdue
    exact hdue.elim nofun (Nat.not_le_of_lt hcadence)

end Sys2Proof.Machine

/-! PROOFS. The statements of 60_exceptions.md: a refused run is over for good (R127), and the block raises no exception
(R113). -/

namespace Sys2Proof.Machine

/-! ### Refused runs -/

/-- A refused run stays refused, with what it had shown, whatever operations come after it (R127). -/
theorem runOps_append_of_refused {ys : List Sample} {s : State} {r : Refusal} (h : runOps ys s = .refused r)
    (zs : List Sample) : runOps (ys ++ zs) s = .refused r ∧ observe (ys ++ zs) s = observe ys s := by
  induction ys generalizing s with
  | nil => nomatch h
  | cons x xs ih =>
    rw [List.cons_append]
    cases hx : applyOp x s with
    | next t =>
      obtain ⟨hrun, hobs⟩ := runOps_cons_of_next hx xs
      obtain ⟨hrun', hobs'⟩ := runOps_cons_of_next hx (xs ++ zs)
      obtain ⟨ihrun, ihobs⟩ := ih (hrun ▸ h)
      exact ⟨hrun'.trans ihrun, by rw [hobs', hobs, ihobs]⟩
    | refused r' =>
      obtain ⟨hrun, hobs⟩ := runOps_cons_of_refused hx xs
      obtain ⟨hrun', hobs'⟩ := runOps_cons_of_refused hx (xs ++ zs)
      exact ⟨hrun'.trans (hrun ▸ h), hobs'.trans hobs.symm⟩
    | fault f => nomatch f

/-- Settles O12: the guard refuses the TICK, which ends the run, and induction on the operations before the refusal
carries it past those that follow. -/
theorem backwardTickIsRefusedForGood : Obligations.BackwardTickIsRefusedForGood := by
  unfold Obligations.BackwardTickIsRefusedForGood
  intro s p xs hr hnow
  have htick : applyOp (tickAt p) s = .refused .timeBackwards := exec_tick_of_timeBackwards (s := s.atPins p) hr hnow
  obtain ⟨hrun, hobs⟩ := runOps_cons_of_refused htick xs
  exact ⟨htick, hrun, hobs, fun _ zs _ _ h => runOps_append_of_refused h zs⟩

/-! ### No exceptions -/

theorem runnable_of_legal {s : State} (hlegal : s.cfg.legal = true) (hcodes : s.out.reserved = false) :
    s.runnable = true := by
  simp [State.runnable, hlegal, hcodes]

/-- Settles O13: there is no fault to end in, and the three conditions are those of the guard. -/
theorem everyMonotonicTickCompletes : Obligations.EveryMonotonicTickCompletes := by
  unfold Obligations.EveryMonotonicTickCompletes
  refine ⟨fun _ => nofun, fun s hlegal hdir hmode hnow => ?_⟩
  have hr : s.runnable = true := runnable_of_legal hlegal (reserved_eq_false.2 ⟨hdir, hmode⟩)
  exact ⟨_, exec_tick_of_canTick (canTick_iff.2 ⟨hr, hnow⟩)⟩

end Sys2Proof.Machine

/-! PROOFS. The statements of 70_reset_and_hazards.md: what RESET leaves (R129), the first TICK after it (R130, R138), and
the hazards of sampling: encoder transitions that fall between two ticks (R135), and a finite time width (R139). -/

namespace Sys2Proof

/-! ### A finite time width -/

/-- With w-bit times the elapsed value wraps modulo 2^w, whatever the two times have wrapped to (R139). -/
theorem elapsedRealised_eq_mod (w : Nat) {now t : Nat} (h : t ≤ now) :
    elapsedRealised w now t = elapsed now t % 2 ^ w := by
  have hnow : BitVec.ofNat w now = BitVec.ofNat w (now - t) + BitVec.ofNat w t := by
    rw [← BitVec.ofNat_add, Nat.sub_add_cancel h]
  rw [elapsedRealised, hnow, BitVec.add_sub_cancel, BitVec.toNat_ofNat]

/-- Settles O60: the realised value is the model's modulo 2^w, which is the model's own exactly below 2^w. -/
theorem finiteWidthTimeAgreesBelowItsRange : Obligations.FiniteWidthTimeAgreesBelowItsRange := by
  unfold Obligations.FiniteWidthTimeAgreesBelowItsRange
  intro w now t h
  rw [elapsedRealised_eq_mod w h]
  exact Nat.mod_eq_iff_lt (Nat.two_pow_pos w).ne'

namespace Machine

/-! ### Transitions between two ticks -/

/-- The single move that a decoder reads in a turn of `n` positions, or none where `n` is even (R135). -/
def nearestMove (n : Int) : Int := if n % 4 = 1 then 1 else if n % 4 = 3 then -1 else 0

theorem grayMove_eq_nearestMove (a b : BitVec 2) : grayMove a b = nearestMove (gray b - gray a) := rfl

theorem nearestMove_congr {n m : Int} (h : n % 4 = m % 4) : nearestMove n = nearestMove m := by
  rw [nearestMove, h, nearestMove]

/-- A turn the other way is read as the opposite move. -/
theorem nearestMove_neg (n : Int) : nearestMove (-n) = -nearestMove n := by
  unfold nearestMove
  split <;> split <;> omega

theorem nearestMove_natCast (n : Nat) :
    nearestMove n = if n % 4 = 1 then 1 else if n % 4 = 3 then -1 else 0 := by
  have hone : (n : Int) % 4 = 1 ↔ n % 4 = 1 := by omega
  have hthree : (n : Int) % 4 = 3 ↔ n % 4 = 3 := by omega
  simp only [nearestMove, hone, hthree]

/-- Positions are counted modulo 4 (R58). -/
theorem gray_pairAt (n : Int) : gray (pairAt n) = n % 4 := by
  obtain h | h | h | h : n % 4 = 0 ∨ n % 4 = 1 ∨ n % 4 = 2 ∨ n % 4 = 3 := by omega
  all_goals rw [pairAt, h]; rfl

/-- From a pair to the one `n` positions on, the Gray move is the nearest single move (R135). -/
theorem grayMove_pairAt (a : BitVec 2) (n : Int) : grayMove a (pairAt (gray a + n)) = nearestMove n := by
  rw [grayMove_eq_nearestMove, gray_pairAt]
  exact nearestMove_congr (by omega)

/-- A tick whose pins have turned by `n` positions since the last one reads the nearest move, in the polarity's sense. -/
theorem exec_tick_of_turn {s : State} (h : s.canTick = true) {n : Int} (hturn : s.pins.cur = pairAt (gray s.prev + n)) :
    ∃ t, exec .tick s = .next t ∧ dirValue t.out.dir = s.cfg.polarity.sign * nearestMove n := by
  obtain ⟨t, ht, hdir, -⟩ := exec_tick_reads_rom h
  exact ⟨t, ht, by rw [hdir, dirValue_romRead_key, hturn, grayMove_pairAt]⟩

/-- Settles O28: a turn back by n is a turn on by -n. -/
theorem tickSeesTransitionsModuloFour : Obligations.TickSeesTransitionsModuloFour := by
  unfold Obligations.TickSeesTransitionsModuloFour
  intro s n h
  rw [← nearestMove_natCast, Int.neg_mul, ← Int.mul_neg, ← nearestMove_neg]
  exact ⟨exec_tick_of_turn h, fun hback => exec_tick_of_turn h (Int.sub_eq_add_neg ▸ hback)⟩

/-! ### RESET -/

/-- Settles O8: RESET is one guarded write, which draws the three timestamps, and a run refused before it stays refused. -/
theorem resetLoadsEveryResetValue : Obligations.ResetLoadsEveryResetValue := by
  unfold Obligations.ResetLoadsEveryResetValue
  refine ⟨fun s t h => ⟨decode_encode (.reset t), ?_⟩, fun s x p r h => ?_⟩
  · exact ⟨Config.freeTime s.draws, Config.freeTime (s.draws + 1), Config.freeTime (s.draws + 2), s.draws + 3,
      (exec_reset t s).trans (guarded_of_runnable h _)⟩
  · exact (runOps_cons_of_refused h [resetAt p]).1

/-- Settles O54: the standard configuration is legal with its reset values in range, and no timestamp is valid. -/
theorem resetStateMeetsTheInvariant : Obligations.ResetStateMeetsTheInvariant where
  legal := by decide
  codes := by decide
  volRange := by decide
  phaseRange := by decide
  phaseOutRange := by decide
  togPast := nofun
  volPast := nofun
  idlePast := nofun
  volPort := rfl
  playPort := rfl
  oneVolCommand := rfl

/-! ### The first tick after RESET -/

/-- After RESET a tick can run at any NOW: LAST_NOW is 0, and the reset outputs hold no reserved code (R129, R130). -/
theorem applyOp_tickAt_after_reset {s r : State} {p : Pins} (h : applyOp (resetAt p) s = .next r) (q : Pins) :
    ∃ t, applyOp (tickAt q) r = .next t := by
  obtain ⟨hr, rfl⟩ := applyOp_reset h
  have hlegal : s.cfg.legal = true := legal_of_runnable hr
  have hcan : ((resetWrite (s.atPins p)).atPins q).canTick = true :=
    canTick_iff.2 ⟨runnable_of_legal hlegal rfl, Nat.zero_le _⟩
  exact ⟨_, exec_tick_of_canTick hcan⟩

/-- A legal PHASE_RESET fits PHASE (R6, R129). -/
theorem toNat_resetWrite_phase {s : State} (h : s.cfg.legal = true) :
    (resetWrite s).phase.toNat = s.cfg.phaseReset := by
  obtain ⟨-, -, -, -, -, -, -, -, hphase⟩ := Config.legal_iff.1 h
  rw [resetWrite_phase, BitVec.toNat_ofNat]
  omega

/-- No timestamp is valid after RESET, so a first tick without an event is in Idle mode and redraws at once, at
PHASE_RESET (R130). -/
theorem firstTick_of_quiet {s r t : State} {p q : Pins} (hreset : applyOp (resetAt p) s = .next r)
    (ht : applyOp (tickAt q) r = .next t) (hquiet : t.out.quiet = true) :
    t.out.mode = 0b00#2 ∧ t.out.idleRedraw = true ∧ t.out.phaseOut.toNat = s.cfg.phaseReset ∧
      t.phase.toNat = (s.cfg.phaseReset + s.cfg.hueStep) % 360 := by
  have harb := arbTick_of_applyOp ht
  obtain ⟨hr, rfl⟩ := applyOp_reset hreset
  have hphase : (resetWrite (s.atPins p)).phase.toNat = s.cfg.phaseReset :=
    toNat_resetWrite_phase (s := s.atPins p) (legal_of_runnable hr)
  have hmode : t.out.mode = 0b00#2 := harb.mode_of_quiet hquiet
  have hidle : t.modeAt q.now = .idle := mode_code_eq_idle.1 (harb.mode.symm.trans hmode)
  have hredraw : t.out.idleRedraw = true := harb.redraw_iff.2 ⟨hidle, .inl rfl⟩
  refine ⟨hmode, hredraw, ?_, ?_⟩
  · rw [harb.phaseOut]
    exact hphase
  · rw [harb.phase, if_pos hredraw, toNat_nextPhase, hphase]
    rfl

/-- Both encoder lines are high at rest (R13). -/
theorem cur_rest (now : Nat) : (Pins.rest now).cur = 0b11#2 := by
  have hhigh : bits2 true true = 0b11#2 := by decide
  exact hhigh

/-- No step is no volume event (R101). -/
theorem volEvent_zero (s : State) : s.volEvent 0 = false := rfl

/-- Settles O57: at rest the pins are QDEC_PREV_RESET and SW is not pressed, so the tick has neither a step nor a toggle. -/
theorem firstTickAtRestRedrawsIdle : Obligations.FirstTickAtRestRedrawsIdle := by
  unfold Obligations.FirstTickAtRestRedrawsIdle
  intro s r p now hreset hprev _
  obtain ⟨t, ht⟩ := applyOp_tickAt_after_reset hreset (Pins.rest now)
  obtain ⟨-, hr⟩ := applyOp_reset hreset
  have hsame : r.prev = 0b11#2 := by rw [hr]; exact hprev
  obtain ⟨-, -, hrom⟩ := applyOp_tick_qdec ht
  have hdir : t.out.dir = 0b00#2 := by
    rw [hrom, hsame]
    exact romRead_of_no_step _ _ _ (.inl (cur_rest now ▸ BitVec.xor_self))
  have htoggle : t.out.cmdPpToggle = false := Bool.eq_false_iff.2 fun hpress => by
    obtain ⟨-, hsw, -⟩ := (swdetTick_of_applyOp ht).toggle_iff.1 hpress
    exact Bool.false_ne_true hsw.symm
  have hevt : t.out.volRedraw = false := by
    rw [(eventTick_of_applyOp ht).volRedraw, hdir]
    exact volEvent_zero r
  exact ⟨t, ht, hdir, htoggle, firstTick_of_quiet hreset ht (quiet_eq_true.2 ⟨hevt, htoggle⟩)⟩

/-- Settles O58: the key's old pair is QDEC_PREV_RESET, LAST_LVL is SW_LEVEL_RESET, and the gate passes while no toggle
has been accepted. -/
theorem firstTickMeasuresAgainstResetValues : Obligations.FirstTickMeasuresAgainstResetValues := by
  unfold Obligations.FirstTickMeasuresAgainstResetValues
  intro s r p q hreset
  obtain ⟨t, ht⟩ := applyOp_tickAt_after_reset hreset q
  obtain ⟨-, rfl⟩ := applyOp_reset hreset
  obtain ⟨-, -, hdir⟩ := applyOp_tick_qdec ht
  rw [BitVec.xor_comm]
  exact ⟨t, ht, fun hone => hdir ▸ romRead_ne_zero_of_step _ hone,
    fun hboth => hdir.trans (romRead_of_no_step _ _ _ (.inr hboth)),
    fun hlvl hsw => (swdetTick_of_applyOp ht).toggle_iff.2 ⟨hlvl, hsw, .inl rfl⟩⟩

end Machine

end Sys2Proof
